-- ==== Sys2Proof/Word.lean ====
section
/-!
DEFINITION. The bit-vector types of GPCL's data (00_scope.md R5 and R7).
-/

namespace Sys2Proof

/-- A host register, and the data of a host transaction: `REG_W` = 32 bits (R5, R26). -/
abbrev Word := BitVec 32

/-- A PBUF entry, a channel byte (R43, R23). -/
abbrev Byte := BitVec 8

/-- An RGB565 sample, and the header's version tag (R104, R33). -/
abbrev Half := BitVec 16

/-- A packed RGB888 pixel, an FBUF entry (R106). -/
abbrev Pixel := BitVec 24

end Sys2Proof
end

