-- ==== Sys2Proof/Config.lean ====
section
/-!
DEFINITION. The parameters of 00_scope.md R5, and the values that the spec leaves open. A parameter with a
reference value has that value. A parameter marked OPEN, and every value the spec calls `any value`
(93_implementation_defined.md), is an opaque constant: no proof can know what it is.
-/

namespace Sys2Proof

/-- What the environment does to the channel's receive queue at the start of a cycle (10_state.md R23, R47).
`arrive bs`: the queue keeps its bytes and the bytes `bs`, possibly none, join it at the end.
`replace q`: the environment makes the queue `q`. The channel's reliability is the environment's (R84) and every
value of `rx_valid` and `rx_data` in every cycle is admitted (R203, U4); this is how the model admits them.
DESIGN CHOICE, safe: log 4. -/
inductive RxIn where
  | arrive (bs : List Byte)
  | replace (q : List Byte)
  deriving DecidableEq, Repr, Inhabited

/-- The channel and time inputs of one cycle (10_state.md R23): the ports of agents 3 and 4 of R20. -/
structure EnvIn where
  /-- `tx_ready` -/
  txReady : Bool
  /-- what happens to the receive queue, which gives `rx_valid` and `rx_data` -/
  rx : RxIn
  /-- `link_up` -/
  linkUp : Bool
  /-- `tick_ms` -/
  tickMs : Bool
  deriving DecidableEq, Repr, Inhabited

/-- `PBUF_BYTES`, reference value 2^17 (R5). -/
def Config.pbufBytes : Nat := 131072

/-- `FBUF_PIXELS`, reference value 2^16 (R5). -/
def Config.fbufPixels : Nat := 65536

/-- `HEADER_LEN` of format version 1 (R5). -/
def Config.headerLen : Nat := 32

/-- Reset value of WIDTH (R5, R34). -/
def Config.widthReset : Word := 240

/-- Reset value of HEIGHT (R5, R34). -/
def Config.heightReset : Word := 240

/-- Reset value of PACKET_COUNT (R5, R38). -/
def Config.packetCountReset : Word := 16

/-- Reset value of DEADLINE_MS (R5, R38). -/
def Config.deadlineReset : Word := 500

/-- `P_READ_WINDOW_RESET`, OPEN (R5, U19). Log 8. -/
opaque Config.readWindowReset : Word

/-- How many cycles `P_PARSE_LATENCY` is above its least value 1. OPEN (R5, U20). Log 9. -/
opaque Config.parseExtra : Nat

/-- How many cycles `P_DECODE_LATENCY` is above its least value 1. OPEN (R5, U20). Log 9. -/
opaque Config.decodeExtra : Nat

/-- `P_PARSE_LATENCY`: at least 1, otherwise open (R5, R251). -/
def Config.parseLatency : Nat := Config.parseExtra + 1

/-- `P_DECODE_LATENCY`: at least 1, otherwise open (R5, R251). -/
def Config.decodeLatency : Nat := Config.decodeExtra + 1

/-- `GPCL_BASE`, OPEN; no rule reads it (20_memory.md R80, U21). Log 19. -/
opaque Config.gpclBase : Nat

/-- What PBUF holds after power-up at an address nothing has written (R43, U1). Log 5. -/
opaque Config.powerUpPbuf : Nat → Byte

/-- What FBUF holds after power-up at an index nothing has written (R43, U1). Log 5. -/
opaque Config.powerUpFbuf : Nat → Pixel

/-- The `any value` of U2: the byte at an address after draw number `draw`. Log 6. -/
opaque Config.freePbuf (draw addr : Nat) : Byte

/-- The `any value` of U3: the pixel at an index after draw number `draw`. Log 7. -/
opaque Config.freeFbuf (draw index : Nat) : Pixel

/-- The channel and time inputs of a cycle that State's `inputs` does not give (R20, R203). Log 2. -/
opaque Config.freeEnv : Nat → EnvIn

end Sys2Proof
end

