-- ==== Sys2Proof/Syntax.lean ====
section
/-!
DEFINITION. What the host can present in a cycle (10_state.md R23, R26), and the instructions: the rows of
spec/opcode_table.json, one constructor each.
-/

namespace Sys2Proof

/-- The host transaction of one cycle (R23), at the one host port (60_exceptions.md R280, R284): none (`hvalid = 0`), a read, or a write. `addr` is `haddr`,
`data` is `hwdata`. This is the encoded form of an access (30_encoding.md R115). -/
inductive HostTxn where
  | idle
  | read (addr : BitVec 8)
  | write (addr : BitVec 8) (data : Word)
  deriving DecidableEq, Repr, Inhabited

/-- The host registers of R26, in offset order. -/
inductive HostReg where
  | cmd | status | cfg | ccIn | ccOut | srcLen | cursor | hdrVersion | width | height | frameId | frameTimeMs
  | hdrFlags | payloadOff | payloadLen | packetCount | deadlineMs | readWindowMs | packetSize | pktReceived
  | retryCount | elapsedMs | pbufAddr | pbufData | fbufAddr | fbufData
  deriving DecidableEq, Repr

/-- The instructions. The first sixteen are the command words of 30_encoding.md R101; `conv` is the register
operation of R103, whose operand is the word the host writes to CC_IN. -/
inductive Instr where
  | nop
  | parse
  | decode
  | linkFetch
  | rxFlush
  | abort
  | clear
  | rsv7
  | rsv8
  | rsv9
  | rsvA
  | rsvB
  | rsvC
  | rsvD
  | rsvE
  | rsvF
  | conv (data : Word)
  deriving DecidableEq, Repr

end Sys2Proof
end

