-- ==== Sys2Proof/Machine/State.lean ====
section
/-!
DEFINITION. GPCL's state (10_state.md), its environment's state (R47), the outcomes of a step, and the state after reset
(70_reset_and_hazards.md R300).
-/

namespace Sys2Proof.Machine

/-- A memory: the entries that something has written, by address, addresses strictly rising. An address that is not listed
has not been written since power-up, and has no value here (10_state.md R43, U1); what a read of it gives is a free value,
named where memory is read (`State.pbufByte`, `State.fbufPixel`). PBUF is a list of `Host.Cell`. -/
abbrev Memory (w : Nat) := List (Nat × BitVec w)

/-- The names of the error codes 1 to 10 (60_exceptions.md R271). -/
inductive ErrCode where
  | unsupportedFormatVersion
  | truncatedHeader
  | invalidGeometry
  | payloadSizeMismatch
  | unsupportedCompression
  | transferTimeout
  | channelUnavailable
  | configInvalid
  | cancelled
  | illegalCommand
  deriving DecidableEq, Repr

/-- The states of the link engine (42_link_framer.md R185). -/
inductive LfState where
  | idle
  | txReady
  | poll
  | announce
  | txContinue
  | check
  | read
  | txRetry
  | txEnd
  | flush
  deriving DecidableEq, Repr

/-- The outcome a running PARSE or DECODE will commit: the range of `I.res` (R40). -/
inductive CmdOutcome where
  | success
  | failure (e : ErrCode)
  deriving DecidableEq, Repr

/-- The stored fields of STATUS (R28). LINK_UP is not stored. -/
structure Status where
  busy : Bool
  done : Bool
  err : Bool
  hdrValid : Bool
  frameValid : Bool
  pixValid : Bool
  noframe : Bool
  rejected : Bool
  /-- ERRCODE; `none` is code 0 -/
  errcode : Option ErrCode
  lastCmd : BitVec 4
  lfState : LfState
  deriving DecidableEq, Repr

/-- The stored fields of the other host registers (R26, R29 to R42). Reserved bits have no storage (R44). -/
structure Regs where
  /-- CFG.LAST_CONT (R29) -/
  lastCont : Bool
  /-- CC_IN.SAMPLE (R30) -/
  ccIn : Half
  srcLen : Word
  cursor : Word
  /-- HDR_VERSION.VERSION (R33) -/
  hdrVersion : Half
  width : Word
  height : Word
  frameId : Word
  frameTimeMs : Word
  /-- HDR_FLAGS.COMPRESSED (R36) -/
  compressed : Bool
  /-- HDR_FLAGS.STATUS_BYTE (R36) -/
  statusByte : Byte
  payloadOff : Word
  payloadLen : Word
  packetCount : Word
  deadlineMs : Word
  readWindowMs : Word
  packetSize : Word
  pktReceived : Word
  retryCount : Word
  elapsedMs : Word
  /-- PBUF_ADDR, an address modulo PBUF_BYTES = 2^17 (R41) -/
  pbufAddr : BitVec 17
  /-- FBUF_ADDR, an index modulo FBUF_PIXELS = 2^16 (R42) -/
  fbufAddr : BitVec 16
  deriving DecidableEq, Repr

/-- The internal elements (R40), and one field of the model's own, `stored`. -/
structure Internal where
  txi : Nat
  ann : Nat
  rdn : Nat
  rdw : Nat
  lat : Nat
  res : Option CmdOutcome
  /-- The MODEL's own: the running LINK_FETCH has stored a payload byte in PBUF. It decides whether U2's `any value`
  applies when the command fails or is cut. Log 6. -/
  stored : Bool
  deriving DecidableEq, Repr

/-- The output ports (R23), as driven in the cycle that led to this state. -/
structure PortsOut where
  /-- `hrdata`; `none` in a cycle in which it is not valid. Log 12. -/
  hrdata : Option Word
  txValid : Bool
  txData : Byte
  rxReady : Bool
  deriving DecidableEq, Repr

/-- The samples of the input ports (R23) in one cycle. -/
structure CycleIn where
  rst : Bool
  host : HostTxn
  env : EnvIn
  deriving DecidableEq, Repr

/-- GPCL, what surrounds it as far as GPCL can observe it (R47), and the inputs of the coming cycles. -/
structure State where
  status : Status
  regs : Regs
  int : Internal
  /-- PBUF (R43) -/
  pbuf : List Host.Cell
  /-- FBUF (R43) -/
  fbuf : Memory 24
  /-- The channel's receive queue, oldest byte first (R47.1). -/
  rxQueue : List Byte
  /-- The bytes that moved on TX, in order (R47.3, R180). -/
  txSent : List Byte
  /-- The output ports in the cycle that led here (R23). -/
  out : PortsOut
  /-- The MODEL's own: the input samples of the coming cycles, oldest first. When it is empty the host is idle, `rst` is 0
  and the other inputs are free (`Config.freeEnv`). Log 2. -/
  inputs : List CycleIn
  /-- The MODEL's own: cycles done, the argument of `Config.freeEnv`. Log 2. -/
  cycle : Nat
  /-- The MODEL's own: draws of free memory contents done (U2, U3). Log 6, log 7. -/
  draws : Nat
  deriving DecidableEq, Repr

/-- Why a step stops. GPCL itself never stops (60_exceptions.md R270). -/
inductive Fault where
  /-- The link engine would store a received byte at an address at or beyond `PBUF_BYTES`, where PBUF has no byte (20_memory.md
  R70). Raised by `cycleWith` for a state that no run from reset reaches (R183, R202). Safe: the model stops. Log 11. -/
  | pbufRange (addr : Nat)
  deriving DecidableEq, Repr

/-- Why an instruction has no meaning. -/
inductive Refusal where
  /-- An arm of `exec` without a meaning; no arm is such. Safe. -/
  | notModelled (mnemonic : String)
  deriving DecidableEq, Repr

/-- STATUS after reset (R28, R300). -/
def Status.reset : Status :=
  { busy := false, done := false, err := false, hdrValid := false, frameValid := false, pixValid := false,
    noframe := false, rejected := false, errcode := none, lastCmd := 0, lfState := .idle }

/-- The host registers after reset (R26, R300). READ_WINDOW_MS is the OPEN parameter `P_READ_WINDOW_RESET` (log 8). -/
def Regs.reset : Regs :=
  { lastCont := true, ccIn := 0, srcLen := 0, cursor := 0, hdrVersion := 0, width := Config.widthReset,
    height := Config.heightReset, frameId := 0, frameTimeMs := 0, compressed := false, statusByte := 0, payloadOff := 0,
    payloadLen := 0, packetCount := Config.packetCountReset, deadlineMs := Config.deadlineReset,
    readWindowMs := Config.readWindowReset, packetSize := 0, pktReceived := 0, retryCount := 0, elapsedMs := 0,
    pbufAddr := 0, fbufAddr := 0 }

/-- The internal elements after reset (R40, R300), which is also what a completion leaves (R273, R274; for `res` and
`stored`: log 10, log 6). -/
def Internal.zero : Internal :=
  { txi := 0, ann := 0, rdn := 0, rdw := 0, lat := 0, res := none, stored := false }

/-- The output ports in a reset cycle (R301; `tx_data`: U17). -/
def PortsOut.reset : PortsOut :=
  { hrdata := some 0, txValid := false, txData := 0, rxReady := false }

/-- The state after the reset cycle that follows power-up (R300, R304). Both memories are as power-up left them: nothing
written. The environment's fields and the model's own are empty or 0: DESIGN CHOICE, log 14. -/
def State.reset : State :=
  { status := Status.reset, regs := Regs.reset, int := Internal.zero, pbuf := [], fbuf := [], rxQueue := [], txSent := [],
    out := PortsOut.reset, inputs := [], cycle := 0, draws := 0 }

end Sys2Proof.Machine
end

