-- ==== Sys2Proof/Machine/Ops.lean ====
section
/-!
DEFINITION. The named operations over memory and registers, and the two completions (60_exceptions.md R273, R274): an error
completion is GPCL's "taking an exception" (R278), `acknowledge` what undoes its record (R279).
-/

namespace Sys2Proof.Machine

/-- The value written at `a`, if anything has been written there. -/
def Memory.lookup {w : Nat} (a : Nat) : Memory w → Option (BitVec w)
  | [] => none
  | (b, v) :: m => if a = b then some v else Memory.lookup a m

/-- Write `v` at `a`, in address order. -/
def Memory.write {w : Nat} (a : Nat) (v : BitVec w) : Memory w → Memory w
  | [] => [(a, v)]
  | (b, u) :: m =>
    if a < b then (a, v) :: (b, u) :: m
    else if a = b then (a, v) :: m
    else (b, u) :: Memory.write a v m

/-- Write `f i` at every address `i` below `n`; the addresses at and above `n` stay as they are. -/
def Memory.setPrefix {w : Nat} (n : Nat) (f : Nat → BitVec w) (m : Memory w) : Memory w :=
  (List.range n).map (fun i => (i, f i)) ++ m.filter (fun c => decide (n ≤ c.1))

/-- The addresses rise strictly from `lo` on and stay below `bound`. -/
def Memory.wfFrom {w : Nat} (lo bound : Nat) : Memory w → Bool
  | [] => true
  | (a, _) :: m => decide (lo ≤ a) && decide (a < bound) && Memory.wfFrom (a + 1) bound m

/-- The one canonical form of a memory of `bound` entries: addresses strictly rising, all below `bound`. No entry can equal
what an unlisted address holds, since an unlisted address holds no value (log 5). -/
def Memory.wf {w : Nat} (bound : Nat) (m : Memory w) : Bool :=
  Memory.wfFrom 0 bound m

/-- `PBUF[a]` (10_state.md R43). An address nothing has written since power-up gives any value, the same each time (U1). -/
def State.pbufByte (s : State) (a : Nat) : Byte :=
  (Memory.lookup a s.pbuf).getD (Config.powerUpPbuf a)

/-- `PixRead(i)`, `FBUF[i]` (00_scope.md R9, R43; unwritten entries: U1). -/
def State.fbufPixel (s : State) (i : Nat) : Pixel :=
  (Memory.lookup i s.fbuf).getD (Config.powerUpFbuf i)

/-- `MemRead(a, 2)`, big-endian (20_memory.md R73). -/
def State.memRead2 (s : State) (a : Nat) : Half :=
  s.pbufByte a ++ s.pbufByte (a + 1)

/-- `MemRead(a, 4)`, big-endian (20_memory.md R74). -/
def State.memRead4 (s : State) (a : Nat) : Word :=
  s.pbufByte a ++ s.pbufByte (a + 1) ++ s.pbufByte (a + 2) ++ s.pbufByte (a + 3)

/-- `MemWrite(a, 1, v)` (00_scope.md R9). An address at or beyond `PBUF_BYTES` names no byte, so nothing is written; the
machine never makes such a write (Machine/Cycle.lean stops with `Fault.pbufRange` before it would). -/
def State.pbufWrite (a : Nat) (v : Byte) (s : State) : State :=
  if a < Config.pbufBytes then { s with pbuf := Memory.write a v s.pbuf } else s

/-- PBUF `[0, n)` holds any value (93_implementation_defined.md U2). Log 6. -/
def State.freePbufPrefix (n : Nat) (s : State) : State :=
  { s with
    pbuf := Memory.setPrefix (min n Config.pbufBytes) (fun a => Config.freePbuf s.draws a) s.pbuf
    draws := s.draws + 1 }

/-- FBUF `[0, n)` holds any value (93_implementation_defined.md U3). Log 7. -/
def State.freeFbufPrefix (n : Nat) (s : State) : State :=
  { s with
    fbuf := Memory.setPrefix (min n Config.fbufPixels) (fun i => Config.freeFbuf s.draws i) s.fbuf
    draws := s.draws + 1 }

/-- `WIDTH * HEIGHT`, exact (00_scope.md R8). -/
def State.pixelCount (s : State) : Nat :=
  s.regs.width.toNat * s.regs.height.toNat

/-- `WIDTH * HEIGHT * 2`, exact (R8). -/
def State.payloadBytes (s : State) : Nat :=
  s.pixelCount * 2

/-- `sat32(v + 1)` (42_link_framer.md R186, R193). -/
def satInc (v : Word) : Word :=
  if v.toNat + 1 < 2 ^ 32 then BitVec.ofNat 32 (v.toNat + 1) else v

/-- The end of a command, with or without an error (60_exceptions.md R273, R274). Every command ends by this one operation, which
records the completion in STATUS, where the one host reads it (R280). Both rules clear the same internal
elements. That `I.res` is none again is DEDUCED (log 10); `stored` is the model's own (log 6). -/
def State.complete (e : Option ErrCode) (s : State) : State :=
  { s with
    status := { s.status with busy := false, done := true, err := e.isSome, errcode := e, lfState := .idle }
    int := Internal.zero }

/-- `finish()` (R273). -/
def State.finish (s : State) : State :=
  s.complete none

/-- `raise e` (R274, R278). -/
def State.raise (e : ErrCode) (s : State) : State :=
  s.complete (some e)

/-- The host's acknowledgement of a completion: the five fields that CLEAR clears (44_control_commands.md R253; R279). -/
def State.acknowledge (s : State) : State :=
  { s with status := { s.status with done := false, err := false, errcode := none, noframe := false, rejected := false } }

/-- The actions common to every command start (44_control_commands.md R250). REJECTED is not changed. -/
def State.start (op : BitVec 4) (s : State) : State :=
  { s with
    status := { s.status with
      done := false, err := false, errcode := none, noframe := false, lastCmd := op, busy := true } }

/-- A host write refused because a command is running (10_state.md R45). -/
def State.reject (s : State) : State :=
  { s with status := { s.status with rejected := true } }

/-- What a failing LINK_FETCH leaves in PBUF `[0, WIDTH*HEIGHT*2)`: any value, if it has stored a byte (U2; 42_link_framer.md
R194, 60_exceptions.md R275); otherwise nothing has been written. Log 6. -/
def State.loseFetched (s : State) : State :=
  if s.int.stored then s.freePbufPrefix s.payloadBytes else s

/-- The memories when the running command is cut, by ABORT (44_control_commands.md R252) or by reset (70_reset_and_hazards.md
R303). A DECODE that would have succeeded leaves FBUF `[0, W*H)` any value (U3); a LINK_FETCH leaves PBUF as U2 says; PARSE and
RX_FLUSH touch no memory. -/
def State.cutMemory (s : State) : State :=
  if s.status.busy then
    match s.status.lfState with
    | .idle => if s.status.lastCmd = 2 ∧ s.int.res = some .success then s.freeFbufPrefix s.pixelCount else s
    | .flush => s
    | .txReady | .poll | .announce | .txContinue | .check | .read | .txRetry | .txEnd => s.loseFetched
  else s

/-- A byte moves on TX (10_state.md R23). -/
def State.sent (b : Byte) (s : State) : State :=
  { s with txSent := s.txSent ++ [b] }

end Sys2Proof.Machine
end

