-- ==== Sys2Proof/Machine/Ccu.lean ====
section
/-!
DEFINITION. CCU, the color conversion unit: combinational, no state (40_color_codec.md R140).
-/

namespace Sys2Proof.Machine

/-- `r5 = s[15:11]` (30_encoding.md R104, R105). -/
def red5 (s : Half) : BitVec 5 := s.extractLsb' 11 5

/-- `g6 = s[10:5]`. -/
def green6 (s : Half) : BitVec 6 := s.extractLsb' 5 6

/-- `b5 = s[4:0]`. -/
def blue5 (s : Half) : BitVec 5 := s.extractLsb' 0 5

/-- A 5-bit field scaled to 8 bits: `(x * 255) / 31`, exact product, truncating division (40_color_codec.md R141). -/
def scale5 (x : BitVec 5) : Byte := BitVec.ofNat 8 ((x.toNat * 255) / 31)

/-- A 6-bit field scaled to 8 bits: `(x * 255) / 63` (R141). -/
def scale6 (x : BitVec 6) : Byte := BitVec.ofNat 8 ((x.toNat * 255) / 63)

/-- A pixel's three channels (`conv`'s result). -/
structure Rgb where
  r8 : Byte
  g8 : Byte
  b8 : Byte
  deriving DecidableEq, Repr

/-- `conv(s)` (R141). -/
def convSample (s : Half) : Rgb :=
  { r8 := scale5 (red5 s), g8 := scale6 (green6 s), b8 := scale5 (blue5 s) }

/-- `pack(r8, g8, b8) = {r8, g8, b8}` (30_encoding.md R106). -/
def packRgb (c : Rgb) : Pixel := c.r8 ++ c.g8 ++ c.b8

/-- `pack(conv(s))`: what CC_OUT shows and what DECODE writes to FBUF. -/
def convPixel (s : Half) : Pixel := packRgb (convSample s)

/-- `convBuf` (R143): element by element, in order. -/
def convBuf (samples : List Half) : List Rgb := samples.map convSample

/-- CC_OUT, combinational from CC_IN (10_state.md R31). -/
def State.ccOut (s : State) : Word := (convPixel s.regs.ccIn).setWidth 32

end Sys2Proof.Machine
end

