-- ==== Sys2Proof/Machine/Fdu.lean ====
section
/-!
DEFINITION. FDU, the frame decode unit: DECODE while it runs (43_frame_decoder.md).
-/

namespace Sys2Proof.Machine

/-- The error a DECODE ends with, by the precedence of 43_frame_decoder.md R237; `none` is success. The products are exact
(00_scope.md R8). -/
def State.decodeError (s : State) : Option ErrCode :=
  if s.regs.compressed then some .unsupportedCompression
  else if s.regs.width = 0 ∨ s.regs.height = 0 then some .invalidGeometry
  else if s.regs.payloadLen.toNat ≠ s.payloadBytes then some .payloadSizeMismatch
  else if Config.fbufPixels < s.pixelCount ∨ Config.pbufBytes < s.regs.srcLen.toNat ∨
      s.regs.srcLen.toNat < s.regs.payloadOff.toNat + s.regs.payloadLen.toNat then some .configInvalid
  else none

/-- The outcome that `I.res` holds while a DECODE runs (10_state.md R40). -/
def State.decodeOutcome (s : State) : CmdOutcome :=
  match s.decodeError with
  | none => .success
  | some e => .failure e

/-- The `i`-th sample of the payload (43_frame_decoder.md R235, 20_memory.md R81). -/
def State.payloadSample (s : State) (i : Nat) : Half :=
  s.memRead2 (s.regs.payloadOff.toNat + 2 * i)

/-- The bulk path (R235): FBUF index `i` gets the converted `i`-th sample, for every `i` below `W*H`; the other entries stay
(R236). -/
def State.convertPayload (s : State) : State :=
  { s with fbuf := Memory.setPrefix s.pixelCount (fun i => convPixel (s.payloadSample i)) s.fbuf }

/-- PIX_VALID is set (R236). -/
def State.setPixValid (s : State) : State :=
  { s with status := { s.status with pixValid := true } }

/-- The pseudocode of DECODE, evaluated at completion (R230): every check before any FBUF write (R238).
That a success writes FBUF here, in the last cycle, is DEDUCED: R251 allows any cycle of the command (log 7). -/
def State.decodeCommit (s : State) : State :=
  match s.decodeError with
  | some e => s.raise e
  | none => s.convertPayload.setPixValid.finish

/-- One cycle of a running DECODE (44_control_commands.md R251). -/
def State.decodeStep (s : State) : State :=
  if s.int.lat ≤ 1 then s.decodeCommit else { s with int := { s.int with lat := s.int.lat - 1 } }

end Sys2Proof.Machine
end

