-- ==== Sys2Proof/Machine/Hpu.lean ====
section
/-!
DEFINITION. HPU, the header parse unit: PARSE while it runs (41_header_parser.md).
-/

namespace Sys2Proof.Machine

/-- The error a PARSE ends with, by the precedence of 41_header_parser.md R167; `none` is success. -/
def State.parseError (s : State) : Option ErrCode :=
  let c0 := s.regs.cursor.toNat
  let len := s.regs.srcLen.toNat
  if Config.pbufBytes < len then some .configInvalid
  else if len < c0 + 2 then some .truncatedHeader
  else if s.memRead2 c0 ≠ 1 then some .unsupportedFormatVersion
  else if len < c0 + Config.headerLen then some .truncatedHeader
  else if s.memRead4 (c0 + 2) = 0 ∨ s.memRead4 (c0 + 6) = 0 then some .invalidGeometry
  else none

/-- The outcome that `I.res` holds while a PARSE runs (10_state.md R40). -/
def State.parseOutcome (s : State) : CmdOutcome :=
  match s.parseError with
  | none => .success
  | some e => .failure e

/-- CURSOR moves to byte `c` (41_header_parser.md R162). -/
def State.setCursor (c : Nat) (s : State) : State :=
  { s with regs := { s.regs with cursor := BitVec.ofNat 32 c } }

/-- HDR_VERSION takes the tag that was read (R163). -/
def State.setHdrVersion (v : Half) (s : State) : State :=
  { s with regs := { s.regs with hdrVersion := v } }

/-- What PARSE success writes (R166): the header's fields (layout: 30_encoding.md R107), where the payload is, and
HDR_VALID. `c0` is the header's first byte. -/
def State.acceptHeader (c0 : Nat) (s : State) : State :=
  let st := s.pbufByte (c0 + 18)
  { s with
    regs := { s.regs with
      width := s.memRead4 (c0 + 2)
      height := s.memRead4 (c0 + 6)
      frameId := s.memRead4 (c0 + 10)
      frameTimeMs := s.memRead4 (c0 + 14)
      compressed := st.getLsbD 0
      statusByte := st
      payloadOff := BitVec.ofNat 32 (c0 + Config.headerLen)
      payloadLen := BitVec.ofNat 32 (s.regs.srcLen.toNat - (c0 + Config.headerLen)) }
    status := { s.status with hdrValid := true } }

/-- The pseudocode of PARSE, evaluated at completion (R160). -/
def State.parseCommit (s : State) : State :=
  let c0 := s.regs.cursor.toNat
  let len := s.regs.srcLen.toNat
  if Config.pbufBytes < len then s.raise .configInvalid
  else if len < c0 + 2 then (s.setCursor (max c0 len)).raise .truncatedHeader
  else
    let tagged := s.setHdrVersion (s.memRead2 c0)
    if s.memRead2 c0 ≠ 1 then (tagged.setCursor (c0 + 2)).raise .unsupportedFormatVersion
    else if len < c0 + Config.headerLen then (tagged.setCursor len).raise .truncatedHeader
    else
      let consumed := tagged.setCursor (c0 + Config.headerLen)
      if s.memRead4 (c0 + 2) = 0 ∨ s.memRead4 (c0 + 6) = 0 then consumed.raise .invalidGeometry
      else (consumed.acceptHeader c0).finish

/-- One cycle of a running PARSE (44_control_commands.md R251): `I.lat` counts down; the cycle in which it reaches 0 commits. -/
def State.parseStep (s : State) : State :=
  if s.int.lat ≤ 1 then s.parseCommit else { s with int := { s.int with lat := s.int.lat - 1 } }

end Sys2Proof.Machine
end

