-- ==== Sys2Proof/Machine/Lfe.lean ====
section
/-!
DEFINITION. LFE, the link framer engine: LINK_FETCH and RX_FLUSH while they run (42_link_framer.md).
-/

namespace Sys2Proof.Machine

/-- `ready` and its newline (30_encoding.md R110). -/
def readyWord : List Byte := [0x72, 0x65, 0x61, 0x64, 0x79, 0x0A]

/-- `continue` and its newline (R110). -/
def continueWord : List Byte := [0x63, 0x6F, 0x6E, 0x74, 0x69, 0x6E, 0x75, 0x65, 0x0A]

/-- `retry` and its newline (R110). -/
def retryWord : List Byte := [0x72, 0x65, 0x74, 0x72, 0x79, 0x0A]

/-- `end` and its newline (R110). -/
def endWord : List Byte := [0x65, 0x6E, 0x64, 0x0A]

/-- The control word a state sends; `none` outside the TX_ states (42_link_framer.md R186). -/
def controlWord : LfState → Option (List Byte)
  | .txReady => some readyWord
  | .txContinue => some continueWord
  | .txRetry => some retryWord
  | .txEnd => some endWord
  | .idle | .poll | .announce | .check | .read | .flush => none

/-- The states in which LFE consumes RX bytes (R182). -/
def consumesRx : LfState → Bool
  | .announce | .read | .flush => true
  | .idle | .txReady | .poll | .txContinue | .check | .txRetry | .txEnd => false

/-- The output ports that the state at the start of a cycle and `link_up` determine (R182). `tx_data` is 0x00 when
`tx_valid = 0` (U17). -/
def State.ports (linkUp : Bool) (s : State) : PortsOut :=
  match s.status.busy && linkUp, controlWord s.status.lfState with
  | true, some w =>
    { hrdata := none, txValid := true, txData := w.getD s.int.txi 0, rxReady := consumesRx s.status.lfState }
  | run, _ => { hrdata := none, txValid := false, txData := 0, rxReady := run && consumesRx s.status.lfState }

/-- LF_STATE takes the state `st`. -/
def State.goto (st : LfState) (s : State) : State :=
  { s with status := { s.status with lfState := st } }

/-- `I.txi <- v`. -/
def State.setTxi (v : Nat) (s : State) : State :=
  { s with int := { s.int with txi := v } }

/-- The deadline has expired (R192): strictly more pulses than DEADLINE_MS. -/
def State.expired (s : State) : Bool :=
  decide (s.regs.deadlineMs.toNat < s.regs.elapsedMs.toNat)

/-- PKT_RECEIVED is below PACKET_COUNT: packets are still missing (R186, R192). -/
def State.morePackets (s : State) : Bool :=
  decide (s.regs.pktReceived.toNat < s.regs.packetCount.toNat)

/-- The end of a LINK_FETCH by an error after its start (R194, R201): the completion, with PBUF as U2 says. -/
def State.failTransfer (e : ErrCode) (s : State) : State :=
  s.loseFetched.raise e

/-- A waiting cycle of TX_CONTINUE or TX_RETRY (R192): the deadline ends the command if packets are missing. -/
def State.stallBeforeLast (s : State) : State :=
  if s.expired && s.morePackets then s.failTransfer .transferTimeout else s

/-- One cycle of sending a control word (R186): with `tx_ready` the byte `I.txi` moves, and the last byte leads on to `last`;
without it the cycle is `stalled`. -/
def sendWord (w : List Byte) (txReady : Bool) (last stalled : State → State) (s : State) : State :=
  if txReady then
    let s1 := s.sent (w.getD s.int.txi 0)
    if w.length ≤ s.int.txi + 1 then last (s1.setTxi 0) else s1.setTxi (s.int.txi + 1)
  else stalled s

/-- `RETRY_COUNT <- sat32(RETRY_COUNT + 1)` (R186, R198). -/
def State.countRetry (s : State) : State :=
  { s with regs := { s.regs with retryCount := satInc s.regs.retryCount } }

/-- Success of LINK_FETCH, at the edge of `end`'s last byte (R199). -/
def State.fetchSuccess (s : State) : State :=
  State.finish
    { s with
      status := { s.status with frameValid := true, hdrValid := false }
      regs := { s.regs with
        payloadOff := 0
        payloadLen := BitVec.ofNat 32 s.payloadBytes
        srcLen := BitVec.ofNat 32 s.payloadBytes
        compressed := false } }

/-- POLL (R188): one cycle. -/
def State.pollStep (s : State) : State :=
  match s.rxQueue with
  | _ :: _ => State.goto .announce
      { s with regs := { s.regs with elapsedMs := 0 }, int := { s.int with ann := 0 } }
  | [] => State.finish { s with status := { s.status with noframe := true } }

/-- ANNOUNCE (R189): two bytes are consumed and discarded unread. -/
def State.announceStep (s : State) : State :=
  match s.rxQueue with
  | _ :: rest =>
    let s1 := { s with rxQueue := rest, int := { s.int with ann := s.int.ann + 1 } }
    if 2 ≤ s.int.ann + 1 then (s1.setTxi 0).goto .txContinue else s1
  | [] => if s.expired then s.failTransfer .transferTimeout else s

/-- CHECK (R191): one cycle, the deadline test at the top of an iteration. -/
def State.checkStep (s : State) : State :=
  if s.expired then s.failTransfer .transferTimeout
  else State.goto .read { s with int := { s.int with rdn := 0, rdw := 0 } }

/-- Where the read attempt stores the next byte: `PKT_RECEIVED * PACKET_SIZE + I.rdn` (R195, R196). -/
def State.storeAddr (s : State) : Nat :=
  s.regs.pktReceived.toNat * s.regs.packetSize.toNat + s.int.rdn

/-- The RX handshake of READ (R195): the presented byte, if any, goes to PBUF. -/
def State.takeByte (s : State) : State :=
  match s.rxQueue with
  | b :: rest =>
    let s1 := s.pbufWrite s.storeAddr b
    { s1 with rxQueue := rest, int := { s1.int with rdn := s1.int.rdn + 1, stored := true } }
  | [] => s

/-- A full read attempt (R195, R197). -/
def State.fullAttempt (s : State) : State :=
  let s1 := State.setTxi 0 { s with regs := { s.regs with pktReceived := s.regs.pktReceived + 1 } }
  if s1.morePackets || s1.regs.lastCont then s1.goto .txContinue else s1.goto .txEnd

/-- A `tick_ms` pulse in a read attempt that is not full (R195, R196, R198): it may end the attempt short. -/
def State.windowTick (s : State) : State :=
  let s1 := { s with int := { s.int with rdw := s.int.rdw + 1 } }
  if s1.regs.readWindowMs.toNat ≤ s1.int.rdw then (s1.setTxi 0).goto .txRetry else s1

/-- READ, one cycle (R195). -/
def State.readStep (tickMs : Bool) (s : State) : State :=
  let s1 := s.takeByte
  if s1.int.rdn = s1.regs.packetSize.toNat then s1.fullAttempt
  else if tickMs then s1.windowTick
  else s1

/-- The states in which ELAPSED_MS counts (R193). -/
def countsElapsed : LfState → Bool
  | .announce | .txContinue | .check | .read | .txRetry | .txEnd => true
  | .idle | .txReady | .poll | .flush => false

/-- ELAPSED_MS counts the pulse of a cycle in which the engine's step does not complete the command (R193). `from_` is the state of
the engine at the start of the cycle. Where the ABORT of the same cycle completes the command instead, `State.dropPulse` takes the
count back (log 20). -/
def State.countElapsed (tickMs : Bool) (from_ : LfState) (s : State) : State :=
  if tickMs && countsElapsed from_ && s.status.busy then
    { s with regs := { s.regs with elapsedMs := satInc s.regs.elapsedMs } }
  else s

/-- The state `s` after the engine's step of a cycle that started in `start`, without the pulse that the step counted: ELAPSED_MS is
that of the start in the states in which it counts, where nothing but the pulse writes it (R193). For a cycle in which ABORT completes
the command: DEDUCED, log 20. -/
def State.dropPulse (start s : State) : State :=
  { s with
    regs := { s.regs with
      elapsedMs := if countsElapsed start.status.lfState then start.regs.elapsedMs else s.regs.elapsedMs } }

/-- The engine's states, with the link up (R186 to R199). IDLE and FLUSH are not LINK_FETCH's. -/
def State.fetchStep (env : EnvIn) (s : State) : State :=
  match s.status.lfState with
  | .txReady => sendWord readyWord env.txReady (State.goto .poll) id s
  | .poll => s.pollStep
  | .announce => s.announceStep
  | .txContinue =>
    sendWord continueWord env.txReady (fun t => if t.morePackets then t.goto .check else t.goto .txEnd)
      State.stallBeforeLast s
  | .check => s.checkStep
  | .read => s.readStep env.tickMs
  | .txRetry => sendWord retryWord env.txReady (fun t => t.countRetry.goto .check) State.stallBeforeLast s
  | .txEnd => sendWord endWord env.txReady State.fetchSuccess id s
  | .idle | .flush => s

/-- One cycle of a running LINK_FETCH: `link_up = 0` first (R201, 60_exceptions.md R276). -/
def State.linkStep (env : EnvIn) (s : State) : State :=
  if env.linkUp then (s.fetchStep env).countElapsed env.tickMs s.status.lfState
  else s.failTransfer .channelUnavailable

/-- One cycle of a running RX_FLUSH (R205). -/
def State.flushStep (env : EnvIn) (s : State) : State :=
  if env.linkUp then
    match s.rxQueue with
    | _ :: rest => { s with rxQueue := rest }
    | [] => s.finish
  else s.raise .channelUnavailable

/-- The error of LINK_FETCH's start checks, in the order of R183; `none` lets the transfer begin. -/
def State.fetchStartError (linkUp : Bool) (s : State) : Option ErrCode :=
  if !linkUp then some .channelUnavailable
  else if s.regs.width = 0 ∨ s.regs.height = 0 then some .invalidGeometry
  else if s.regs.packetCount = 0 ∨ s.payloadBytes % s.regs.packetCount.toNat ≠ 0 ∨
      Config.pbufBytes < s.payloadBytes ∨ s.regs.readWindowMs = 0 then some .configInvalid
  else none

/-- The engine prepares the transfer (R183, R184). That `stored` starts false is the model's own (log 6). -/
def State.prepareFetch (s : State) : State :=
  State.goto .txReady
    { s with
      regs := { s.regs with
        packetSize := BitVec.ofNat 32 (s.payloadBytes / s.regs.packetCount.toNat)
        pktReceived := 0
        retryCount := 0
        elapsedMs := 0 }
      int := { s.int with txi := 0, stored := false } }

end Sys2Proof.Machine
end

