-- ==== Sys2Proof/WellFormed.lean ====
section
/-!
DEFINITION. Which instruction terms and which host transactions are in canonical form: what the machine ignores is 0.
Nothing that is not canonical is refused by the machine (30_encoding.md R102, R114): this says which terms the encoder
produces.
-/

namespace Sys2Proof

/-- An instruction carries nothing in the bits that CC_IN ignores (10_state.md R30: bits [31:16]). A command has no
operand (R100). -/
def Instr.wellFormed : Instr → Bool
  | .conv data => data.toNat < 65536
  | .nop | .parse | .decode | .linkFetch | .rxFlush | .abort | .clear => true
  | .rsv7 | .rsv8 | .rsv9 | .rsvA | .rsvB | .rsvC | .rsvD | .rsvE | .rsvF => true

/-- A write of an instruction is canonical: `haddr[1:0] = 0` (20_memory.md R72), and the ignored bits of CMD
([31:4], R100: "software writes 0") or of CC_IN ([31:16], R30) are 0. -/
def HostTxn.wellFormed : HostTxn → Bool
  | .write addr data => (addr == 0x00 && data.toNat < 16) || (addr == 0x0C && data.toNat < 65536)
  | .idle => false
  | .read _ => false

end Sys2Proof
end

