-- ==== Sys2Proof/Decode.lean ====
section
/-!
DEFINITION. The register address decoder (10_state.md R26), the instruction decoder (30_encoding.md R100 to R103), total on
every host transaction, and the encoder.
-/

namespace Sys2Proof

/-- The byte offset of a register (R26). -/
def HostReg.offset : HostReg → BitVec 8
  | .cmd => 0x00
  | .status => 0x04
  | .cfg => 0x08
  | .ccIn => 0x0C
  | .ccOut => 0x10
  | .srcLen => 0x14
  | .cursor => 0x18
  | .hdrVersion => 0x1C
  | .width => 0x20
  | .height => 0x24
  | .frameId => 0x28
  | .frameTimeMs => 0x2C
  | .hdrFlags => 0x30
  | .payloadOff => 0x34
  | .payloadLen => 0x38
  | .packetCount => 0x3C
  | .deadlineMs => 0x40
  | .readWindowMs => 0x44
  | .packetSize => 0x48
  | .pktReceived => 0x4C
  | .retryCount => 0x50
  | .elapsedMs => 0x54
  | .pbufAddr => 0x58
  | .pbufData => 0x5C
  | .fbufAddr => 0x60
  | .fbufData => 0x64

/-- Every register, in offset order. -/
def HostReg.all : List HostReg :=
  [.cmd, .status, .cfg, .ccIn, .ccOut, .srcLen, .cursor, .hdrVersion, .width, .height, .frameId, .frameTimeMs, .hdrFlags,
    .payloadOff, .payloadLen, .packetCount, .deadlineMs, .readWindowMs, .packetSize, .pktReceived, .retryCount,
    .elapsedMs, .pbufAddr, .pbufData, .fbufAddr, .fbufData]

/-- The register an access at `addr` reaches: the one at offset `addr & 0xFC` (20_memory.md R72); none in the unmapped
range 0x68 to 0xFC (R44). -/
def regAt (addr : BitVec 8) : Option HostReg :=
  HostReg.all.find? (fun r => r.offset == addr &&& 0xFC)

/-- OPCODE, the field `hwdata[3:0]` of a command word (R100). -/
def opcodeField (data : Word) : BitVec 4 :=
  data.extractLsb' 0 4

/-- The opcode map (R101): every one of the 16 values names a row. -/
def decodeOpcode (op : BitVec 4) : Instr :=
  match op.toNat with
  | 0x0 => .nop
  | 0x1 => .parse
  | 0x2 => .decode
  | 0x3 => .linkFetch
  | 0x4 => .rxFlush
  | 0x5 => .abort
  | 0x6 => .clear
  | 0x7 => .rsv7
  | 0x8 => .rsv8
  | 0x9 => .rsv9
  | 0xA => .rsvA
  | 0xB => .rsvB
  | 0xC => .rsvC
  | 0xD => .rsvD
  | 0xE => .rsvE
  | _ => .rsvF

/-- The operand of a CONV: the written word without the bits that CC_IN ignores (R30: [31:16]). -/
def sampleField (data : Word) : Word :=
  (data.extractLsb' 0 16).setWidth 32

/-- Why a host transaction is no instruction of the table. Each of these is an access with its own effect
(Machine/Operands.lean). -/
inductive NotInstr where
  /-- `hvalid = 0`: no transaction -/
  | noTransaction
  /-- a read of a register -/
  | registerRead (r : HostReg)
  /-- a write of a register other than CMD and CC_IN -/
  | registerWrite (r : HostReg)
  /-- an access in the unmapped range -/
  | unmapped
  deriving DecidableEq, Repr

/-- The instruction that a host transaction is (R100, R103), or, by name, why it is none. -/
def decode : HostTxn → Except NotInstr Instr
  | .idle => .error .noTransaction
  | .read addr =>
    match regAt addr with
    | some r => .error (.registerRead r)
    | none => .error .unmapped
  | .write addr data =>
    match regAt addr with
    | some .cmd => .ok (decodeOpcode (opcodeField data))
    | some .ccIn => .ok (.conv (sampleField data))
    | some r => .error (.registerWrite r)
    | none => .error .unmapped

/-- The opcode of a command (R101). CONV is not a command. -/
def opcodeOf : Instr → Option (BitVec 4)
  | .nop => some 0x0
  | .parse => some 0x1
  | .decode => some 0x2
  | .linkFetch => some 0x3
  | .rxFlush => some 0x4
  | .abort => some 0x5
  | .clear => some 0x6
  | .rsv7 => some 0x7
  | .rsv8 => some 0x8
  | .rsv9 => some 0x9
  | .rsvA => some 0xA
  | .rsvB => some 0xB
  | .rsvC => some 0xC
  | .rsvD => some 0xD
  | .rsvE => some 0xE
  | .rsvF => some 0xF
  | .conv _ => none

/-- The host transaction that an instruction is: a write of the opcode to CMD, ignored bits 0 (R100), or a write of the
word to CC_IN (R103). -/
def encode (i : Instr) : HostTxn :=
  match i with
  | .conv data => .write HostReg.ccIn.offset data
  | _ => .write HostReg.cmd.offset (((opcodeOf i).getD 0).setWidth 32)

/-- The canonical form of an instruction's write: what the machine ignores set to 0 (R72, R100, R30). Other transactions
stay as they are. -/
def HostTxn.canonical : HostTxn → HostTxn
  | .write addr data =>
    match regAt addr with
    | some .cmd => .write HostReg.cmd.offset ((opcodeField data).setWidth 32)
    | some .ccIn => .write HostReg.ccIn.offset (sampleField data)
    | some _ => .write addr data
    | none => .write addr data
  | .idle => .idle
  | .read addr => .read addr

/-- The host transaction that a word of spec/opcode_table.json stands for. A row of format CMD32 gives the word written to
CMD. The one row of format REGOP, CONV, gives 8 bits that are the address of CC_IN (R103), and no data: it is the write of
0 there. Log 16. -/
def tableTxn (nbits w : Nat) : HostTxn :=
  if nbits ≤ 8 ∧ w = 0x0C then .write 0x0C 0 else .write 0x00 (BitVec.ofNat 32 w)

/-- The instruction the decoder reads from a word of the opcode table. -/
def decodeTableWord (nbits w : Nat) : Option Instr :=
  match decode (tableTxn nbits w) with
  | .ok i => some i
  | .error _ => none

end Sys2Proof
end

