-- ==== Sys2Proof/Machine/Flags.lean ====
section
/-!
DEFINITION. STATUS as a word (10_state.md R28), the error codes (60_exceptions.md R271) and the codes of LF_STATE
(42_link_framer.md R185). GPCL has no arithmetic condition codes (10_state.md R46).
-/

namespace Sys2Proof.Machine

/-- The value of ERRCODE for an error (R271). -/
def errCodeValue : ErrCode → BitVec 4
  | .unsupportedFormatVersion => 1
  | .truncatedHeader => 2
  | .invalidGeometry => 3
  | .payloadSizeMismatch => 4
  | .unsupportedCompression => 5
  | .transferTimeout => 6
  | .channelUnavailable => 7
  | .configInvalid => 8
  | .cancelled => 9
  | .illegalCommand => 10

/-- ERRCODE: 0 is "none" (R28, R271). -/
def errcodeField : Option ErrCode → BitVec 4
  | none => 0
  | some e => errCodeValue e

/-- The classes of 60_exceptions.md R272. -/
inductive ErrClass where
  | terminal
  | transient
  | hostError
  deriving DecidableEq, Repr

/-- The class of an error (R272): codes 1 to 5, 6 and 7, 8 to 10. GPCL itself never reads it. -/
def errClass : ErrCode → ErrClass
  | .unsupportedFormatVersion | .truncatedHeader | .invalidGeometry | .payloadSizeMismatch
  | .unsupportedCompression => .terminal
  | .transferTimeout | .channelUnavailable => .transient
  | .configInvalid | .cancelled | .illegalCommand => .hostError

/-- The value of LF_STATE for a state of the engine (R185). -/
def lfStateValue : LfState → BitVec 4
  | .idle => 0
  | .txReady => 1
  | .poll => 2
  | .announce => 3
  | .txContinue => 4
  | .check => 5
  | .read => 6
  | .txRetry => 7
  | .txEnd => 8
  | .flush => 9

/-- STATUS as the host reads it in a cycle with `link_up = linkUp`: the fields of R28 from bit 31 down to bit 0. -/
def statusWord (linkUp : Bool) (st : Status) : Word :=
  (0 : BitVec 11) ++ BitVec.ofBool linkUp ++ lfStateValue st.lfState ++ st.lastCmd ++ errcodeField st.errcode ++
    BitVec.ofBool st.rejected ++ BitVec.ofBool st.noframe ++ BitVec.ofBool st.pixValid ++
    BitVec.ofBool st.frameValid ++ BitVec.ofBool st.hdrValid ++ BitVec.ofBool st.err ++ BitVec.ofBool st.done ++
    BitVec.ofBool st.busy

end Sys2Proof.Machine
end

