-- ==== Sys2Proof/Machine/Operands.lean ====
section
/-!
DEFINITION. The host's accesses to the register port: what a read returns, what a read does, what a write does
(10_state.md R26 to R45).
-/

namespace Sys2Proof.Machine

/-- The word a host read of `r` returns, from the state at the start of the cycle (R21). `linkUp` is the cycle's `link_up`,
which STATUS mirrors (R28). A read depends
on no mode or privilege, so the one host sees every completion in STATUS (60_exceptions.md R277, R280, R281, R285). -/
def readReg (linkUp : Bool) (r : HostReg) (s : State) : Word :=
  match r with
  | .cmd => 0
  | .status => statusWord linkUp s.status
  | .cfg => (BitVec.ofBool s.regs.lastCont).setWidth 32
  | .ccIn => s.regs.ccIn.setWidth 32
  | .ccOut => s.ccOut
  | .srcLen => s.regs.srcLen
  | .cursor => s.regs.cursor
  | .hdrVersion => s.regs.hdrVersion.setWidth 32
  | .width => s.regs.width
  | .height => s.regs.height
  | .frameId => s.regs.frameId
  | .frameTimeMs => s.regs.frameTimeMs
  | .hdrFlags => (0 : BitVec 16) ++ s.regs.statusByte ++ (0 : BitVec 7) ++ BitVec.ofBool s.regs.compressed
  | .payloadOff => s.regs.payloadOff
  | .payloadLen => s.regs.payloadLen
  | .packetCount => s.regs.packetCount
  | .deadlineMs => s.regs.deadlineMs
  | .readWindowMs => s.regs.readWindowMs
  | .packetSize => s.regs.packetSize
  | .pktReceived => s.regs.pktReceived
  | .retryCount => s.regs.retryCount
  | .elapsedMs => s.regs.elapsedMs
  | .pbufAddr => s.regs.pbufAddr.setWidth 32
  | .pbufData => if s.status.busy then 0 else (s.pbufByte s.regs.pbufAddr.toNat).setWidth 32
  | .fbufAddr => s.regs.fbufAddr.setWidth 32
  | .fbufData => if s.status.busy then 0 else (s.fbufPixel s.regs.fbufAddr.toNat).setWidth 32

/-- `PBUF_ADDR <- (PBUF_ADDR + 1) mod PBUF_BYTES` (R41). -/
def State.advancePbuf (s : State) : State :=
  { s with regs := { s.regs with pbufAddr := s.regs.pbufAddr + 1 } }

/-- `FBUF_ADDR <- (FBUF_ADDR + 1) mod FBUF_PIXELS` (R42). -/
def State.advanceFbuf (s : State) : State :=
  { s with regs := { s.regs with fbufAddr := s.regs.fbufAddr + 1 } }

/-- The side effect of a host read (20_memory.md R79): the data windows advance, unless a command was running at the start of
the cycle (R41, R42). -/
def readEffect (busyAtStart : Bool) (r : HostReg) (s : State) : State :=
  match r with
  | .pbufData => if busyAtStart then s else s.advancePbuf
  | .fbufData => if busyAtStart then s else s.advanceFbuf
  | .cmd | .status | .cfg | .ccIn | .ccOut | .srcLen | .cursor | .hdrVersion | .width | .height | .frameId
  | .frameTimeMs | .hdrFlags | .payloadOff | .payloadLen | .packetCount | .deadlineMs | .readWindowMs | .packetSize
  | .pktReceived | .retryCount | .elapsedMs | .pbufAddr | .fbufAddr => s

/-- `hrdata` carries `v` this cycle (R23). -/
def State.drive (v : Word) (s : State) : State :=
  { s with out := { s.out with hrdata := some v } }

/-- CC_IN takes bits [15:0] of the written word (R30). -/
def State.setCcIn (data : Word) (s : State) : State :=
  { s with regs := { s.regs with ccIn := data.setWidth 16 } }

/-- An accepted write of PBUF_DATA (R41): the low byte goes to `PBUF[PBUF_ADDR]`, and the address advances. -/
def State.pbufDataWrite (data : Word) (s : State) : State :=
  (s.pbufWrite s.regs.pbufAddr.toNat (data.setWidth 8)).advancePbuf

/-- The effect of an accepted write of a register (R29 to R42). CMD writes are instructions, not here. Registers that the host
cannot write stay (R26: "host writes ignored"). -/
def writeReg (r : HostReg) (data : Word) (s : State) : State :=
  match r with
  | .cfg => { s with regs := { s.regs with lastCont := data.getLsbD 0 } }
  | .ccIn => s.setCcIn data
  | .srcLen => { s with regs := { s.regs with srcLen := data } }
  | .cursor => { s with regs := { s.regs with cursor := data } }
  | .width => { s with regs := { s.regs with width := data } }
  | .height => { s with regs := { s.regs with height := data } }
  | .hdrFlags => { s with regs := { s.regs with compressed := data.getLsbD 0 } }
  | .payloadOff => { s with regs := { s.regs with payloadOff := data } }
  | .payloadLen => { s with regs := { s.regs with payloadLen := data } }
  | .packetCount => { s with regs := { s.regs with packetCount := data } }
  | .deadlineMs => { s with regs := { s.regs with deadlineMs := data } }
  | .readWindowMs => { s with regs := { s.regs with readWindowMs := data } }
  | .pbufAddr => { s with regs := { s.regs with pbufAddr := data.setWidth 17 } }
  | .pbufData => s.pbufDataWrite data
  | .fbufAddr => { s with regs := { s.regs with fbufAddr := data.setWidth 16 } }
  | .cmd | .status | .ccOut | .hdrVersion | .frameId | .frameTimeMs | .packetSize | .pktReceived | .retryCount
  | .elapsedMs | .fbufData => s

/-- The registers the host can write: RW and W in R26. -/
def writable : HostReg → Bool
  | .cmd | .cfg | .ccIn | .srcLen | .cursor | .width | .height | .hdrFlags | .payloadOff | .payloadLen | .packetCount
  | .deadlineMs | .readWindowMs | .pbufAddr | .pbufData | .fbufAddr => true
  | .status | .ccOut | .hdrVersion | .frameId | .frameTimeMs | .packetSize | .pktReceived | .retryCount | .elapsedMs
  | .fbufData => false

/-- The host writes that are accepted while a command runs, apart from ABORT: CC_IN (R45). -/
def acceptedWhileBusy (r : HostReg) : Bool :=
  r == .ccIn

/-- A host write of a register other than CMD, judged by BUSY at the start of the cycle (R45). -/
def hostWrite (busyAtStart : Bool) (r : HostReg) (data : Word) (s : State) : State :=
  if busyAtStart && writable r && !acceptedWhileBusy r then s.reject else writeReg r data s

/-- A host read: the value is that of the start state `s0`; the side effect applies to the state after the step (R21). -/
def hostRead (linkUp : Bool) (r : HostReg) (s0 s : State) : State :=
  (readEffect s0.status.busy r s).drive (readReg linkUp r s0)

/-- A host transaction that is no instruction (R26, R44, R45): `s0` is the state at the start of the cycle, `s` the state after
GPCL's step. An unmapped read returns 0; an unmapped write is ignored without setting REJECTED (R44). -/
def hostAccess (linkUp : Bool) (t : HostTxn) (s0 s : State) : State :=
  match t with
  | .idle => s
  | .read addr =>
    match regAt addr with
    | some r => hostRead linkUp r s0 s
    | none => s.drive 0
  | .write addr data =>
    match regAt addr with
    | some r => hostWrite s0.status.busy r data s
    | none => s

end Sys2Proof.Machine
end

