-- ==== Sys2Proof/Machine/Cycle.lean ====
section
/-!
DEFINITION. One clock cycle (10_state.md R21, R22): the sampled inputs, GPCL's step, then the host's transaction. An
instruction's host transaction is a parameter here; its effect is in the instruction's own definition.
-/

namespace Sys2Proof.Machine

/-- The inputs of the coming cycle: the first of `inputs`; with none left, an idle host, no reset, and free channel and time
inputs (log 2). -/
def State.sampled (s : State) : CycleIn :=
  match s.inputs with
  | i :: _ => i
  | [] => { rst := false, host := .idle, env := Config.freeEnv s.cycle }

/-- The receive queue that GPCL sees in a cycle (10_state.md R23, R47; log 4). -/
def applyRx (rx : RxIn) (q : List Byte) : List Byte :=
  match rx with
  | .arrive bs => q ++ bs
  | .replace q' => q'

/-- The start of a cycle: the inputs are sampled, the bytes presented on RX are those of the queue, and the output ports are
driven (42_link_framer.md R182). No register changes. -/
def State.beginCycle (s : State) : State :=
  { s with
    rxQueue := applyRx s.sampled.env.rx s.rxQueue
    out := s.ports s.sampled.env.linkUp
    inputs := s.inputs.tail
    cycle := s.cycle + 1 }

/-- GPCL's step (10_state.md R21.1): nothing when no command runs; else the active unit's. The unit is LFE in any state but
IDLE (42_link_framer.md R185), and in IDLE the unit of the command that runs (R25). BUSY in IDLE with another LAST_CMD is no
reachable state; then nothing happens (log 13). -/
def State.unitStep (env : EnvIn) (s : State) : State :=
  if s.status.busy then
    match s.status.lfState with
    | .idle =>
      if s.status.lastCmd = 1 then s.parseStep
      else if s.status.lastCmd = 2 then s.decodeStep
      else s
    | .flush => s.flushStep env
    | .txReady | .poll | .announce | .txContinue | .check | .read | .txRetry | .txEnd => s.linkStep env
  else s

/-- The step would store a received byte where PBUF has none (20_memory.md R70): the address, if so. It is the condition of
READ's byte handshake (42_link_framer.md R195) with an address at or beyond `PBUF_BYTES`. No run from reset gets there (R202);
log 11. -/
def State.strayStore (env : EnvIn) (s : State) : Option Nat :=
  if s.status.busy && env.linkUp && s.status.lfState == .read && !s.rxQueue.isEmpty &&
      decide (Config.pbufBytes ≤ s.storeAddr) then
    some s.storeAddr
  else none

/-- A cycle with `rst = 0` (R21): GPCL's step, then the host's transaction, whose effect is `host`: it takes the state at the
start of the cycle and the state after the step. -/
def cycleWith (host : State → State → State) (s : State) : Host.Outcome State Fault Refusal :=
  match s.beginCycle.strayStore s.sampled.env with
  | some a => .fault (.pbufRange a)
  | none => .next (host s (s.beginCycle.unitStep s.sampled.env))

/-- A cycle whose host transaction is a write of CMD (10_state.md R45): refused while a command runs, otherwise `effect`. The
cycle's `link_up` is passed on, for the start checks (42_link_framer.md R183). -/
def commandCycle (effect : Bool → State → State) (s : State) : Host.Outcome State Fault Refusal :=
  cycleWith (fun s0 s1 => if s0.status.busy then s1.reject else effect s0.sampled.env.linkUp s1) s

/-- A cycle whose host transaction is no instruction (R26, R44, R45), or with no transaction. -/
def accessCycle (s : State) : Host.Outcome State Fault Refusal :=
  cycleWith (fun s0 s1 => hostAccess s0.sampled.env.linkUp s0.sampled.host s0 s1) s

/-- A cycle with `rst = 1` (10_state.md R22, 70_reset_and_hazards.md R301, R303): the step and the host transaction are
discarded, registers and internal elements take their reset values, the memories keep their contents but for what U2 and U3
leave open, and no channel byte moves. -/
def resetCycle (s : State) : State :=
  let s1 := s.beginCycle.cutMemory
  { s1 with status := Status.reset, regs := Regs.reset, int := Internal.zero, out := PortsOut.reset }

end Sys2Proof.Machine
end

