-- ==== Sys2Proof/Machine/Color.lean ====
section
/-!
DEFINITION. CONV, the scalar conversion register operation (40_color_codec.md R142).
-/

namespace Sys2Proof.Machine

/-- CONV: the host writes a sample to CC_IN, and CC_OUT is its conversion from then on (R142, 10_state.md R31). The write is
accepted even while a command runs (10_state.md R45); no flag is written. -/
def execConv (data : Word) (s : State) : Host.Outcome State Fault Refusal :=
  cycleWith (fun _ s1 => s1.setCcIn data) s

end Sys2Proof.Machine
end

