-- ==== Sys2Proof/Machine/Control.lean ====
section
/-!
DEFINITION. The commands that transform no data: NOP, ABORT, CLEAR and the reserved opcodes (44_control_commands.md). Each meaning
is one clock cycle whose host transaction writes the command to CMD (10_state.md R21, R27).
-/

namespace Sys2Proof.Machine

/-- NOP (R254): no state change of any kind. -/
def execNop (s : State) : Host.Outcome State Fault Refusal :=
  commandCycle (fun _ t => t) s

/-- The cancelling of the command that still runs after its step (R252): `s` is the state after the step, `start` that of the start
of the cycle. `Cancelled` completes the command in this cycle (60_exceptions.md R274), so a pulse of the cycle is not counted
(42_link_framer.md R193; DEDUCED, log 20). -/
def State.cancel (start s : State) : State :=
  State.raise .cancelled (State.dropPulse start s.cutMemory)

/-- ABORT (R252), accepted in every state: nothing with no command running at the start of the cycle; otherwise the command takes
its step first, and is cancelled if that did not complete it. -/
def execAbort (s : State) : Host.Outcome State Fault Refusal :=
  cycleWith (fun s0 s1 => if s0.status.busy && s1.status.busy then State.cancel s0 s1 else s1) s

/-- CLEAR (R253). -/
def execClear (s : State) : Host.Outcome State Fault Refusal :=
  commandCycle (fun _ t => t.acknowledge) s

/-- A reserved opcode, accepted with BUSY = 0 (R255): the error completion `IllegalCommand`. -/
def illegalCommand (op : BitVec 4) (s : State) : State :=
  State.raise .illegalCommand { s with status := { s.status with lastCmd := op, noframe := false } }

/-- Opcode 0x7 (R255). -/
def execRsv7 (s : State) : Host.Outcome State Fault Refusal :=
  commandCycle (fun _ t => illegalCommand 0x7 t) s

/-- Opcode 0x8 (R255). -/
def execRsv8 (s : State) : Host.Outcome State Fault Refusal :=
  commandCycle (fun _ t => illegalCommand 0x8 t) s

/-- Opcode 0x9 (R255). -/
def execRsv9 (s : State) : Host.Outcome State Fault Refusal :=
  commandCycle (fun _ t => illegalCommand 0x9 t) s

/-- Opcode 0xA (R255). -/
def execRsvA (s : State) : Host.Outcome State Fault Refusal :=
  commandCycle (fun _ t => illegalCommand 0xA t) s

/-- Opcode 0xB (R255). -/
def execRsvB (s : State) : Host.Outcome State Fault Refusal :=
  commandCycle (fun _ t => illegalCommand 0xB t) s

/-- Opcode 0xC (R255). -/
def execRsvC (s : State) : Host.Outcome State Fault Refusal :=
  commandCycle (fun _ t => illegalCommand 0xC t) s

/-- Opcode 0xD (R255). -/
def execRsvD (s : State) : Host.Outcome State Fault Refusal :=
  commandCycle (fun _ t => illegalCommand 0xD t) s

/-- Opcode 0xE (R255). -/
def execRsvE (s : State) : Host.Outcome State Fault Refusal :=
  commandCycle (fun _ t => illegalCommand 0xE t) s

/-- Opcode 0xF (R255). -/
def execRsvF (s : State) : Host.Outcome State Fault Refusal :=
  commandCycle (fun _ t => illegalCommand 0xF t) s

end Sys2Proof.Machine
end

