-- ==== Sys2Proof/Machine/Frame.lean ====
section
/-!
DEFINITION. The commands of HPU and FDU: PARSE and DECODE. The write of CMD starts the command (44_control_commands.md R250); the cycles after
run it (Hpu.lean, Fdu.lean, by `State.unitStep`).
-/

namespace Sys2Proof.Machine

/-- The start of a PARSE (R250). `I.res` takes the outcome, which depends on the operands alone (41_header_parser.md R160; log 10). -/
def startParse (s : State) : State :=
  let s1 := s.start 0x1
  { s1 with
    status := { s1.status with hdrValid := false }
    int := { s1.int with lat := Config.parseLatency, res := some s.parseOutcome } }

/-- PARSE (41_header_parser.md R160). -/
def execParse (s : State) : Host.Outcome State Fault Refusal :=
  commandCycle (fun _ t => startParse t) s

/-- The start of a DECODE (R250; `I.res`: 43_frame_decoder.md R230, log 10). -/
def startDecode (s : State) : State :=
  let s1 := s.start 0x2
  { s1 with
    status := { s1.status with pixValid := false }
    int := { s1.int with lat := Config.decodeLatency, res := some s.decodeOutcome } }

/-- DECODE (43_frame_decoder.md R230). -/
def execDecode (s : State) : Host.Outcome State Fault Refusal :=
  commandCycle (fun _ t => startDecode t) s

end Sys2Proof.Machine
end

