-- ==== Sys2Proof/Machine/Link.lean ====
section
/-!
DEFINITION. The commands of LFE: LINK_FETCH and RX_FLUSH. The write of CMD starts the command (44_control_commands.md R250); the cycles after
run it (Lfe.lean, by `State.unitStep`).
-/

namespace Sys2Proof.Machine

/-- The start of a LINK_FETCH (R250) with its start checks (42_link_framer.md R183), at the same edge. -/
def startLinkFetch (linkUp : Bool) (s : State) : State :=
  let s1 := s.start 0x3
  let s2 := { s1 with status := { s1.status with frameValid := false } }
  match s2.fetchStartError linkUp with
  | some e => s2.raise e
  | none => s2.prepareFetch

/-- LINK_FETCH (42_link_framer.md R180). -/
def execLinkFetch (s : State) : Host.Outcome State Fault Refusal :=
  commandCycle startLinkFetch s

/-- The start of an RX_FLUSH (R250, 42_link_framer.md R205). -/
def startRxFlush (linkUp : Bool) (s : State) : State :=
  let s1 := s.start 0x4
  if linkUp then s1.goto .flush else s1.raise .channelUnavailable

/-- RX_FLUSH (42_link_framer.md R205). -/
def execRxFlush (s : State) : Host.Outcome State Fault Refusal :=
  commandCycle startRxFlush s

end Sys2Proof.Machine
end

