-- ==== Sys2Proof/Machine/Dispatch.lean ====
section
/-!
DEFINITION. From an instruction to its meaning: one clock cycle in which the host presents it.
-/

namespace Sys2Proof.Machine

def exec (i : Instr) (s : State) : Host.Outcome State Fault Refusal :=
  match i with
  | .nop => Sys2Proof.Machine.execNop s
  | .parse => Sys2Proof.Machine.execParse s
  | .decode => Sys2Proof.Machine.execDecode s
  | .linkFetch => Sys2Proof.Machine.execLinkFetch s
  | .rxFlush => Sys2Proof.Machine.execRxFlush s
  | .abort => Sys2Proof.Machine.execAbort s
  | .clear => Sys2Proof.Machine.execClear s
  | .rsv7 => Sys2Proof.Machine.execRsv7 s
  | .rsv8 => Sys2Proof.Machine.execRsv8 s
  | .rsv9 => Sys2Proof.Machine.execRsv9 s
  | .rsvA => Sys2Proof.Machine.execRsvA s
  | .rsvB => Sys2Proof.Machine.execRsvB s
  | .rsvC => Sys2Proof.Machine.execRsvC s
  | .rsvD => Sys2Proof.Machine.execRsvD s
  | .rsvE => Sys2Proof.Machine.execRsvE s
  | .rsvF => Sys2Proof.Machine.execRsvF s
  | .conv data => Sys2Proof.Machine.execConv data s

end Sys2Proof.Machine
end

