-- ==== Sys2Proof/Machine/Step.lean ====
section
/-!
DEFINITION. The step: one clock cycle (10_state.md R21).
-/

namespace Sys2Proof.Machine

/-- One clock cycle. Reset comes first (60_exceptions.md R276); otherwise the host transaction of the cycle is decoded and run,
as an instruction or as another access. -/
def step (s : State) : Host.Outcome State Fault Refusal :=
  if s.sampled.rst then .next (resetCycle s)
  else
    match Sys2Proof.decode s.sampled.host with
    | .ok i => exec i s
    | .error _ => accessCycle s

/-- `s` with the instruction of an opcode-table word as the host transaction of the next cycle, which is no reset cycle. The
cycle's channel and time inputs stay what they would be. Log 3, log 16. -/
def State.withFetchWord (s : State) (nbits w : Nat) : State :=
  { s with
    inputs := { rst := false, host := tableTxn nbits w, env := s.sampled.env } :: s.inputs.tail }

end Sys2Proof.Machine
end

