-- ==== Sys2Proof/Laws/PerInstr.lean ====
section
/-!
SUPPORT. The family RoundTrip: for one instruction, the decoder reads back what the encoder writes (30_encoding.md R100, R103).
-/

namespace Sys2Proof.Laws

/-- What the encoder writes for `i` decodes to `i`, if `i` is well-formed. -/
def RoundTrip.Statement (i : Instr) : Prop :=
  i.wellFormed = true → Sys2Proof.decode (encode i) = .ok i

theorem RoundTrip.nop : RoundTrip.Statement .nop := fun _ => rfl
theorem RoundTrip.parse : RoundTrip.Statement .parse := fun _ => rfl
theorem RoundTrip.decode : RoundTrip.Statement .decode := fun _ => rfl
theorem RoundTrip.linkFetch : RoundTrip.Statement .linkFetch := fun _ => rfl
theorem RoundTrip.rxFlush : RoundTrip.Statement .rxFlush := fun _ => rfl
theorem RoundTrip.abort : RoundTrip.Statement .abort := fun _ => rfl
theorem RoundTrip.clear : RoundTrip.Statement .clear := fun _ => rfl
theorem RoundTrip.rsv7 : RoundTrip.Statement .rsv7 := fun _ => rfl
theorem RoundTrip.rsv8 : RoundTrip.Statement .rsv8 := fun _ => rfl
theorem RoundTrip.rsv9 : RoundTrip.Statement .rsv9 := fun _ => rfl
theorem RoundTrip.rsvA : RoundTrip.Statement .rsvA := fun _ => rfl
theorem RoundTrip.rsvB : RoundTrip.Statement .rsvB := fun _ => rfl
theorem RoundTrip.rsvC : RoundTrip.Statement .rsvC := fun _ => rfl
theorem RoundTrip.rsvD : RoundTrip.Statement .rsvD := fun _ => rfl
theorem RoundTrip.rsvE : RoundTrip.Statement .rsvE := fun _ => rfl
theorem RoundTrip.rsvF : RoundTrip.Statement .rsvF := fun _ => rfl

theorem RoundTrip.conv (data : Word) : RoundTrip.Statement (.conv data) := by
  intro h
  have hs : sampleField data = data := by
    simp only [Instr.wellFormed, decide_eq_true_eq] at h
    apply BitVec.eq_of_toNat_eq
    simp only [sampleField, BitVec.toNat_setWidth, BitVec.extractLsb'_toNat]
    omega
  show Except.ok (Instr.conv (sampleField data)) = _
  rw [hs]

end Sys2Proof.Laws
end

