-- ==== Sys2Proof/Safety.lean ====
section
/-!
DEFINITION. What counts as a legal state and a safe step, and the frames, in the terms that the statements use.
-/

namespace Sys2Proof.Machine

/-- The states of the engine that are LINK_FETCH's (42_link_framer.md R185). -/
def isFetchState : LfState → Bool
  | .txReady | .poll | .announce | .txContinue | .check | .read | .txRetry | .txEnd => true
  | .idle | .flush => false

/-- Both memories are in canonical form, within their sizes (10_state.md R43, 20_memory.md R70). -/
def State.MemoryOk (s : State) : Prop :=
  Memory.wf Config.pbufBytes s.pbuf = true ∧ Memory.wf Config.fbufPixels s.fbuf = true

/-- The STATUS fields agree among themselves (10_state.md R28, 60_exceptions.md R273, R274), and with no command running the
engine is idle and the internal elements are 0 (R273, R274, R300). -/
def State.StatusOk (s : State) : Prop :=
  s.status.err = s.status.errcode.isSome ∧
  (s.status.err = true → s.status.done = true) ∧
  (s.status.busy = true → s.status.done = false ∧ s.status.noframe = false) ∧
  (s.status.noframe = true → s.status.done = true ∧ s.status.err = false ∧ s.status.lastCmd = 3) ∧
  (s.status.busy = false → s.status.lfState = .idle ∧ s.int = Internal.zero)

/-- A running LINK_FETCH (42_link_framer.md R183, R184, R202): the configuration passed the start checks, the packets make up the
payload exactly, the packets received are at most those of the frame, and the counters of the engine are in range. -/
def State.FetchOk (s : State) : Prop :=
  s.status.lastCmd = 3 ∧ s.status.frameValid = false ∧
  s.regs.packetCount.toNat * s.regs.packetSize.toNat = s.payloadBytes ∧
  0 < s.payloadBytes ∧ s.payloadBytes ≤ Config.pbufBytes ∧
  0 < s.regs.readWindowMs.toNat ∧
  s.regs.pktReceived.toNat ≤ s.regs.packetCount.toNat ∧
  s.int.rdn ≤ s.regs.packetSize.toNat ∧ s.int.rdw ≤ s.regs.readWindowMs.toNat ∧ s.int.ann ≤ 2 ∧
  (∀ w, controlWord s.status.lfState = some w → s.int.txi < w.length) ∧
  (controlWord s.status.lfState = none → s.int.txi = 0) ∧
  (s.status.lfState = .announce → s.int.ann < 2) ∧
  (s.status.lfState = .read → s.int.rdn < s.regs.packetSize.toNat ∧ s.int.rdw < s.regs.readWindowMs.toNat) ∧
  (s.status.lfState ≠ .txContinue → s.status.lfState ≠ .txEnd →
    s.regs.pktReceived.toNat < s.regs.packetCount.toNat) ∧
  (s.status.lfState = .txEnd → s.regs.pktReceived = s.regs.packetCount)

/-- A running PARSE or DECODE (44_control_commands.md R250, R251, 10_state.md R40): cycles are left, the valid flag that the start
cleared is clear, and `I.res` is the outcome of the operands as they stand now. -/
def State.UnitOk (s : State) : Prop :=
  0 < s.int.lat ∧
  ((s.status.lastCmd = 1 ∧ s.status.hdrValid = false ∧ s.int.res = some s.parseOutcome) ∨
    (s.status.lastCmd = 2 ∧ s.status.pixValid = false ∧ s.int.res = some s.decodeOutcome))

/-- What holds of every state of a run: a command that runs is one of the four that can (R250), in a legal state of its unit. -/
def State.RunOk (s : State) : Prop :=
  s.status.busy = true →
    (s.status.lfState = .idle → s.UnitOk) ∧
    (s.status.lfState = .flush → s.status.lastCmd = 4) ∧
    (isFetchState s.status.lfState = true → s.FetchOk) ∧
    (isFetchState s.status.lfState = false →
      s.int.txi = 0 ∧ s.int.ann = 0 ∧ s.int.rdn = 0 ∧ s.int.rdw = 0)

/-- The invariant of the machine. -/
def State.Inv (s : State) : Prop :=
  s.MemoryOk ∧ s.StatusOk ∧ s.RunOk

/-- A safe step: a next state, legal again. GPCL never stops (60_exceptions.md R270). -/
def State.StepsSafely (s : State) : Prop :=
  ∃ t, step s = .next t ∧ t.Inv

/-- The internal elements that a completion clears (60_exceptions.md R273, R274) are clear. -/
def Internal.AtRest (i : Internal) : Prop :=
  i.txi = 0 ∧ i.ann = 0 ∧ i.rdn = 0 ∧ i.rdw = 0 ∧ i.lat = 0

/-- A command runs, or STATUS holds a completion and the engine and the internal elements are as it leaves them (60_exceptions.md R273,
R274, R280). -/
def State.RunsOrDone (s : State) : Prop :=
  s.status.busy = true ∨
    (s.status.done = true ∧ s.status.err = s.status.errcode.isSome ∧ s.status.lfState = .idle ∧ s.int = Internal.zero)

/-- Every byte of PBUF and every entry of FBUF reads as before. -/
def SameMemory (s t : State) : Prop :=
  (∀ a, t.pbufByte a = s.pbufByte a) ∧ (∀ i, t.fbufPixel i = s.fbufPixel i)

/-- From `s` to `t` no byte moved on the channel: nothing was sent, and the receive queue is that of the cycle's start. -/
def NoByteMoved (s t : State) : Prop :=
  t.txSent = s.txSent ∧ t.rxQueue = applyRx s.sampled.env.rx s.rxQueue

/-- The channel outputs of a cycle that starts with no command running (42_link_framer.md R182): nothing is offered or
consumed. -/
def QuietPorts (t : State) : Prop :=
  t.out.txValid = false ∧ t.out.rxReady = false

/-- `s` with what the scalar conversion path can touch taken away: CC_IN and the read data of the cycle. -/
def eraseColor (s : State) : State :=
  { s with regs := { s.regs with ccIn := 0 }, out := { s.out with hrdata := none } }

/-- The registers whose read value an accepted write of a register may change (10_state.md R26, R31, R41, R42). -/
def affectedBy : HostReg → List HostReg
  | .ccIn => [.ccIn, .ccOut]
  | .pbufAddr => [.pbufAddr, .pbufData]
  | .pbufData => [.pbufAddr, .pbufData]
  | .fbufAddr => [.fbufAddr, .fbufData]
  | r => [r]

/-- A PARSE in its last cycle (44_control_commands.md R251), with no reset and an idle host. -/
def ParseEnding (s : State) : Prop :=
  s.sampled.rst = false ∧ s.sampled.host = .idle ∧ s.status.busy = true ∧ s.status.lfState = .idle ∧
    s.status.lastCmd = 1 ∧ s.int.lat = 1

/-- A DECODE in its last cycle (R251), with no reset and an idle host. -/
def DecodeEnding (s : State) : Prop :=
  s.sampled.rst = false ∧ s.sampled.host = .idle ∧ s.status.busy = true ∧ s.status.lfState = .idle ∧
    s.status.lastCmd = 2 ∧ s.int.lat = 1

/-- A command runs with the engine in `st`, the link is up, there is no reset and the host is idle. -/
def EngineIn (st : LfState) (s : State) : Prop :=
  s.sampled.rst = false ∧ s.sampled.host = .idle ∧ s.status.busy = true ∧ s.status.lfState = st ∧
    s.sampled.env.linkUp = true

/-- ELAPSED_MS after a cycle that starts in `s` and does not complete the command (42_link_framer.md R193): one more, saturating, if
the cycle has a pulse. -/
def tickedElapsed (s : State) : Word :=
  if s.sampled.env.tickMs then satInc s.regs.elapsedMs else s.regs.elapsedMs

/-- STATUS after an error completion (60_exceptions.md R274) of a command that ran with STATUS `st`. -/
def errorStatus (e : ErrCode) (st : Status) : Status :=
  { st with busy := false, done := true, err := true, errcode := some e, lfState := .idle }

/-- STATUS after a normal completion (R273). -/
def doneStatus (st : Status) : Status :=
  { st with busy := false, done := true, err := false, errcode := none, lfState := .idle }

/-- STATUS right after the common start actions (44_control_commands.md R250) of the command `op`. -/
def startedStatus (op : BitVec 4) (st : Status) : Status :=
  { st with done := false, err := false, errcode := none, noframe := false, lastCmd := op, busy := true }

/-- A cycle's inputs neither reset GPCL nor present an ABORT. -/
def undisturbed (i : CycleIn) : Bool :=
  !i.rst && (match Sys2Proof.decode i.host with | .ok .abort => false | .ok _ => true | .error _ => true)

/-- The write of an opcode to CMD in a cycle with the link up, TX accepting, no tick and no new byte. -/
def promptCommand (op : Word) : CycleIn :=
  { rst := false, host := .write 0x00 op,
    env := { txReady := true, rx := .arrive [], linkUp := true, tickMs := false } }

/-- A cycle with the link up, TX accepting, no tick, no new byte and an idle host. -/
def promptCycle : CycleIn :=
  { rst := false, host := .idle, env := { txReady := true, rx := .arrive [], linkUp := true, tickMs := false } }

/-- The bytes of a success's TX stream, from the control words of 30_encoding.md R110: `ready`, then `n` times `continue`,
then `end`. -/
def successStream (n : Nat) : List Byte :=
  readyWord ++ (List.replicate n continueWord).flatten ++ endWord

end Sys2Proof.Machine
end

