-- ==== Sys2Proof/Certificates/Slice0/Obligations.lean ====
section
/-!
DEFINITION. The statements for the provers. Each docstring names the rule of spec/ it formalises. A cycle is one step; `s.sampled`
are the inputs of the cycle that starts in `s`; `s.beginCycle` is `s` with those inputs taken, which changes the ports, the receive
queue and the model's own `inputs` and `cycle`, and nothing else.
-/

open Sys2Proof Sys2Proof.Machine

/-! ### Decoding -/

/-- R21, R27, R103: a cycle without reset whose host transaction decodes to an instruction is that instruction's meaning. -/
def Obligations.StepRunsDecodedInstruction : Prop :=
  ∀ (s : State) (i : Instr), s.sampled.rst = false → Sys2Proof.decode s.sampled.host = .ok i → step s = exec i s

/-- R100, R101, R103: words written out from the spec's encodings decode to their instructions. -/
def Obligations.SpecWordsDecode : Prop :=
  Sys2Proof.decode (.write 0x00 0x00000000) = .ok .nop ∧
  Sys2Proof.decode (.write 0x00 0x00000001) = .ok .parse ∧
  Sys2Proof.decode (.write 0x00 0xFFFFFFF1) = .ok .parse ∧
  Sys2Proof.decode (.write 0x00 0x00000002) = .ok .decode ∧
  Sys2Proof.decode (.write 0x00 0x00000003) = .ok .linkFetch ∧
  Sys2Proof.decode (.write 0x03 0x00000005) = .ok .abort ∧
  Sys2Proof.decode (.write 0x00 0x0000000F) = .ok .rsvF ∧
  Sys2Proof.decode (.write 0x0C 0x1234F800) = .ok (.conv 0xF800)

/-- R72, R100 to R103: decoding and encoding agree. A host transaction is the instruction `i` exactly if its canonical form is
what the encoder writes for `i`, and what the encoder writes is canonical and decodes to `i`. -/
def Obligations.DecodeEncodeAgree : Prop :=
  (∀ (t : HostTxn) (i : Instr),
    Sys2Proof.decode t = .ok i ↔ i.wellFormed = true ∧ t.canonical = encode i) ∧
  (∀ i : Instr, i.wellFormed = true → (encode i).wellFormed = true ∧ Sys2Proof.decode (encode i) = .ok i)

/-! ### Color conversion -/

/-- R145: the exact per-field results: each channel of a conversion is its field's entry in the table. -/
def Obligations.ScaleTables : Prop :=
  (∀ s : Half,
    (convSample s).r8 = scale5 (s.extractLsb' 11 5) ∧ (convSample s).g8 = scale6 (s.extractLsb' 5 6) ∧
    (convSample s).b8 = scale5 (s.extractLsb' 0 5)) ∧
  (List.range 32).map (fun x => (scale5 (BitVec.ofNat 5 x)).toNat) =
    [0, 8, 16, 24, 32, 41, 49, 57, 65, 74, 82, 90, 98, 106, 115, 123,
      131, 139, 148, 156, 164, 172, 180, 189, 197, 205, 213, 222, 230, 238, 246, 255] ∧
  (List.range 64).map (fun x => (scale6 (BitVec.ofNat 6 x)).toNat) =
    [0, 4, 8, 12, 16, 20, 24, 28, 32, 36, 40, 44, 48, 52, 56, 60,
      64, 68, 72, 76, 80, 85, 89, 93, 97, 101, 105, 109, 113, 117, 121, 125,
      129, 133, 137, 141, 145, 149, 153, 157, 161, 165, 170, 174, 178, 182, 186, 190,
      194, 198, 202, 206, 210, 214, 218, 222, 226, 230, 234, 238, 242, 246, 250, 255]

/-- R141, R146: the conversion equals the multiply-shift forms, on every sample. -/
def Obligations.ConvEqualsMultiplyShift : Prop :=
  ∀ s : Half,
    (convSample s).r8.toNat = (s.toNat / 2048 * 1053) >>> 7 ∧
    (convSample s).g8.toNat = (s.toNat / 32 % 64 * 4145) >>> 10 ∧
    (convSample s).b8.toNat = (s.toNat % 32 * 1053) >>> 7

/-- R144: each channel depends on its own field only and is strictly increasing in it. -/
def Obligations.ConvChannelsIncrease : Prop :=
  ∀ s s' : Half,
    ((convSample s).r8 < (convSample s').r8 ↔ red5 s < red5 s') ∧
    ((convSample s).g8 < (convSample s').g8 ↔ green6 s < green6 s') ∧
    ((convSample s).b8 < (convSample s').b8 ↔ blue5 s < blue5 s')

/-- R142, R30, R31, R105, R106, R46: with no command running CONV completes; CC_OUT is then the packed conversion of bits
[15:0] of the written word; nothing else changes. -/
def Obligations.ConvSetsCcOut : Prop :=
  ∀ (s : State) (data : Word), s.status.busy = false →
    ∃ t, exec (.conv data) s = .next t ∧
      t.regs = { s.regs with ccIn := data.extractLsb' 0 16 } ∧
      (∀ linkUp, (readReg linkUp .ccOut t).toNat =
        data.toNat / 2048 % 32 * 255 / 31 * 65536 + data.toNat / 32 % 64 * 255 / 63 * 256 + data.toNat % 32 * 255 / 31) ∧
      t.status = s.status ∧ t.int = s.int ∧ SameMemory s t ∧ NoByteMoved s t ∧ QuietPorts t

/-- R45, R142: while a command runs CONV is accepted: the running command takes its step, CC_IN takes the sample, REJECTED is
not set. -/
def Obligations.ConvWhileBusy : Prop :=
  ∀ (s : State) (data : Word), s.status.busy = true → s.beginCycle.strayStore s.sampled.env = none →
    ∃ t u, exec (.conv data) s = .next t ∧ u = s.beginCycle.unitStep s.sampled.env ∧
      t.regs = { u.regs with ccIn := data.extractLsb' 0 16 } ∧ t.status = u.status ∧ t.int = u.int ∧
      SameMemory u t ∧ t.txSent = u.txSent ∧ t.rxQueue = u.rxQueue

/-- R46, R140, R284: the value of CC_IN influences nothing but CC_IN and what a read returns. -/
def Obligations.ColorPathInfluencesNothing : Prop :=
  ∀ (s t : State) (h : Half), step s = .next t →
    ∃ t', step { s with regs := { s.regs with ccIn := h } } = .next t' ∧ eraseColor t' = eraseColor t

/-! ### Control commands -/

/-- R254: NOP, the write of 0 to CMD, changes nothing; while a command runs it is refused and sets REJECTED. -/
def Obligations.NopChangesNothing : Prop :=
  Sys2Proof.decode (.write 0x00 0x00000000) = .ok .nop ∧
  ∀ s : State,
    (s.status.busy = false → ∃ t, exec .nop s = .next t ∧
      t.status = s.status ∧ t.regs = s.regs ∧ t.int = s.int ∧ SameMemory s t ∧ NoByteMoved s t ∧ QuietPorts t) ∧
    (s.status.busy = true → s.beginCycle.strayStore s.sampled.env = none →
      exec .nop s = .next (s.beginCycle.unitStep s.sampled.env).reject)

/-- R253: CLEAR, the write of 6 to CMD, clears the five fields and nothing else; while a command runs it is refused and sets
REJECTED. -/
def Obligations.ClearAcknowledges : Prop :=
  Sys2Proof.decode (.write 0x00 0x00000006) = .ok .clear ∧
  ∀ s : State,
    (s.status.busy = false → ∃ t, exec .clear s = .next t ∧
      t.status = { s.status with done := false, err := false, errcode := none, noframe := false, rejected := false } ∧
      t.regs = s.regs ∧ t.int = s.int ∧ SameMemory s t ∧ NoByteMoved s t ∧ QuietPorts t) ∧
    (s.status.busy = true → s.beginCycle.strayStore s.sampled.env = none →
      exec .clear s = .next (s.beginCycle.unitStep s.sampled.env).reject)

/-- R255: each of the nine reserved opcodes, `rsv7` to `rsvF`, is what its CMD writes decode to, whatever bits [31:4] are; it
ends with `IllegalCommand`, and touches no memory, no valid flag, no channel byte; while a command runs it is refused and sets
REJECTED. -/
def Obligations.ReservedOpcodesAreIllegal : Prop :=
  ∀ (s : State) (i : Instr) (op : BitVec 4), opcodeOf i = some op → 7 ≤ op.toNat →
    (∀ data : Word, data.extractLsb' 0 4 = op → Sys2Proof.decode (.write 0x00 data) = .ok i) ∧
    (s.status.busy = false → ∃ t, exec i s = .next t ∧
      t.status = { s.status with
        busy := false, done := true, err := true, errcode := some .illegalCommand, lfState := .idle, lastCmd := op,
        noframe := false } ∧
      t.regs = s.regs ∧ t.int.AtRest ∧ SameMemory s t ∧ NoByteMoved s t ∧ QuietPorts t) ∧
    (s.status.busy = true → s.beginCycle.strayStore s.sampled.env = none →
      exec i s = .next (s.beginCycle.unitStep s.sampled.env).reject)

/-- R252: ABORT with no command running has no effect; with one that its own step completes, that completion stands. -/
def Obligations.AbortLeavesCompletedAlone : Prop :=
  ∀ s : State,
    (s.status.busy = false → ∃ t, exec .abort s = .next t ∧
      t.status = s.status ∧ t.regs = s.regs ∧ t.int = s.int ∧ SameMemory s t ∧ NoByteMoved s t ∧ QuietPorts t) ∧
    (s.status.busy = true → s.beginCycle.strayStore s.sampled.env = none →
      (s.beginCycle.unitStep s.sampled.env).status.busy = false →
      exec .abort s = .next (s.beginCycle.unitStep s.sampled.env))

/-- R252, R276: ABORT ends a command that still runs after its step of the cycle: STATUS, the registers as the step left them, and
what each command leaves in memory (U2 and U3 as log 6 and log 7 model them; that `I.res` tells whether a DECODE would have
succeeded: log 10). A pulse of the ABORT's cycle is not counted in ELAPSED_MS (R193 read as log 20 says: DEDUCED); no other register
differs from the step's. -/
def Obligations.AbortCancelsRunning : Prop :=
  ∀ s u : State, s.status.busy = true → s.beginCycle.strayStore s.sampled.env = none →
    u = s.beginCycle.unitStep s.sampled.env → u.status.busy = true →
    ∃ t, exec .abort s = .next t ∧ t.status = errorStatus .cancelled u.status ∧
      t.regs = { u.regs with
        elapsedMs := if countsElapsed s.status.lfState = true then s.regs.elapsedMs else u.regs.elapsedMs } ∧
      t.int.AtRest ∧ t.txSent = u.txSent ∧ t.rxQueue = u.rxQueue ∧
      (u.status.lfState = .idle → u.status.lastCmd = 1 → SameMemory u t) ∧
      (u.status.lfState = .idle → u.status.lastCmd = 2 →
        (∀ a, t.pbufByte a = u.pbufByte a) ∧ (∀ i, u.pixelCount ≤ i → t.fbufPixel i = u.fbufPixel i) ∧
        (u.int.res ≠ some .success → SameMemory u t)) ∧
      (u.status.lfState = .flush → SameMemory u t) ∧
      (isFetchState u.status.lfState = true →
        (∀ i, t.fbufPixel i = u.fbufPixel i) ∧ (∀ a, u.payloadBytes ≤ a → t.pbufByte a = u.pbufByte a))

/-! ### PARSE -/

/-- R73, R74: multi-byte reads of PBUF are big-endian. -/
def Obligations.MemReadIsBigEndian : Prop :=
  ∀ (s : State) (a : Nat),
    (s.memRead2 a).toNat = (s.pbufByte a).toNat * 256 + (s.pbufByte (a + 1)).toNat ∧
    (s.memRead4 a).toNat = (s.pbufByte a).toNat * 16777216 + (s.pbufByte (a + 1)).toNat * 65536 +
      (s.pbufByte (a + 2)).toNat * 256 + (s.pbufByte (a + 3)).toNat

/-- R250, R160: PARSE with no command running starts: STATUS as R250 says, HDR_VALID clear, no other register changed. -/
def Obligations.ParseStarts : Prop :=
  ∀ s : State, s.status.busy = false →
    ∃ t, exec .parse s = .next t ∧
      t.status = { startedStatus 0x1 s.status with hdrValid := false } ∧
      t.int.lat = Config.parseLatency ∧ 1 ≤ t.int.lat ∧
      t.regs = s.regs ∧ SameMemory s t ∧ NoByteMoved s t ∧ QuietPorts t

/-- R160, R166: the success of PARSE, at the edge of its last cycle. -/
def Obligations.ParseSuccess : Prop :=
  ∀ (s : State) (c0 len : Nat), ParseEnding s → c0 = s.regs.cursor.toNat → len = s.regs.srcLen.toNat →
    len ≤ Config.pbufBytes → c0 + 32 ≤ len → s.pbufByte c0 = 0 → s.pbufByte (c0 + 1) = 1 →
    s.memRead4 (c0 + 2) ≠ 0 → s.memRead4 (c0 + 6) ≠ 0 →
    ∃ t, step s = .next t ∧
      t.regs = { s.regs with
        cursor := BitVec.ofNat 32 (c0 + 32)
        hdrVersion := 1
        width := s.memRead4 (c0 + 2)
        height := s.memRead4 (c0 + 6)
        frameId := s.memRead4 (c0 + 10)
        frameTimeMs := s.memRead4 (c0 + 14)
        compressed := (s.pbufByte (c0 + 18)).getLsbD 0
        statusByte := s.pbufByte (c0 + 18)
        payloadOff := BitVec.ofNat 32 (c0 + 32)
        payloadLen := BitVec.ofNat 32 (len - (c0 + 32)) } ∧
      t.status = doneStatus { s.status with hdrValid := true } ∧ t.int.AtRest ∧
      SameMemory s t ∧ NoByteMoved s t

/-- R161 to R165, R167, R168: the errors of PARSE in their order, with CURSOR and HDR_VERSION after each, and nothing else
written. -/
def Obligations.ParseErrors : Prop :=
  ∀ (s : State) (c0 len : Nat), ParseEnding s → c0 = s.regs.cursor.toNat → len = s.regs.srcLen.toNat →
    ∃ t, step s = .next t ∧ SameMemory s t ∧ NoByteMoved s t ∧
      (if Config.pbufBytes < len then
        t.status = errorStatus .configInvalid s.status ∧ t.regs = s.regs
      else if len < c0 + 2 then
        t.status = errorStatus .truncatedHeader s.status ∧
          t.regs = { s.regs with cursor := BitVec.ofNat 32 (max c0 len) }
      else if ¬ (s.pbufByte c0 = 0 ∧ s.pbufByte (c0 + 1) = 1) then
        t.status = errorStatus .unsupportedFormatVersion s.status ∧
          t.regs = { s.regs with cursor := BitVec.ofNat 32 (c0 + 2), hdrVersion := s.memRead2 c0 }
      else if len < c0 + 32 then
        t.status = errorStatus .truncatedHeader s.status ∧
          t.regs = { s.regs with cursor := BitVec.ofNat 32 len, hdrVersion := 1 }
      else if s.memRead4 (c0 + 2) = 0 ∨ s.memRead4 (c0 + 6) = 0 then
        t.status = errorStatus .invalidGeometry s.status ∧
          t.regs = { s.regs with cursor := BitVec.ofNat 32 (c0 + 32), hdrVersion := 1 }
      else t.status.err = false)

/-- R160, R251, R316, R320: from the cycle that presents PARSE, whatever the inputs of the `P_PARSE_LATENCY` cycles after it are,
if none resets or aborts, the command ends in exactly those cycles with the outcome of the operands at its start. CC_IN alone may
have been written, and REJECTED set. -/
def Obligations.ParseRunsToItsOutcome : Prop :=
  ∀ (s r : State) (first : CycleIn) (mid rest : List CycleIn),
    s.status.busy = false → s.status.lfState = .idle → s.inputs = first :: (mid ++ rest) →
    first.rst = false → Sys2Proof.decode first.host = .ok .parse →
    mid.length = Config.parseLatency → (∀ i ∈ mid, undisturbed i = true) → r = (startParse s).parseCommit →
    ∃ t, Sys2Proof.core.run (Config.parseLatency + 1) s = .next t ∧
      t.regs = { r.regs with ccIn := t.regs.ccIn } ∧ t.status = { r.status with rejected := t.status.rejected } ∧
      t.status.busy = false ∧ t.status.done = true ∧ t.int.AtRest ∧ SameMemory s t ∧ t.txSent = s.txSent ∧
      t.inputs = rest

/-! ### DECODE -/

/-- R250, R230: DECODE with no command running starts: STATUS as R250 says, PIX_VALID clear, no other register changed. -/
def Obligations.DecodeStarts : Prop :=
  ∀ s : State, s.status.busy = false →
    ∃ t, exec .decode s = .next t ∧
      t.status = { startedStatus 0x2 s.status with pixValid := false } ∧
      t.int.lat = Config.decodeLatency ∧ 1 ≤ t.int.lat ∧
      t.regs = s.regs ∧ SameMemory s t ∧ NoByteMoved s t ∧ QuietPorts t

/-- R230, R235, R236, R239: the success of DECODE, at the edge of its last cycle: every pixel of the frame, no other FBUF entry, no
PBUF byte, no register but STATUS. -/
def Obligations.DecodeSuccess : Prop :=
  ∀ (s : State) (n : Nat), DecodeEnding s → n = s.regs.width.toNat * s.regs.height.toNat →
    s.regs.compressed = false → s.regs.width ≠ 0 → s.regs.height ≠ 0 → s.regs.payloadLen.toNat = n * 2 →
    n ≤ Config.fbufPixels → s.regs.srcLen.toNat ≤ Config.pbufBytes →
    s.regs.payloadOff.toNat + s.regs.payloadLen.toNat ≤ s.regs.srcLen.toNat →
    ∃ t, step s = .next t ∧
      (∀ i, i < n → t.fbufPixel i = packRgb (convSample (s.memRead2 (s.regs.payloadOff.toNat + 2 * i)))) ∧
      (∀ i, n ≤ i → t.fbufPixel i = s.fbufPixel i) ∧ (∀ a, t.pbufByte a = s.pbufByte a) ∧
      t.regs = s.regs ∧ t.status = doneStatus { s.status with pixValid := true } ∧ t.int.AtRest ∧
      NoByteMoved s t

/-- R231 to R234, R237, R238: the errors of DECODE in their order; no FBUF entry and no register but STATUS is written. -/
def Obligations.DecodeErrors : Prop :=
  ∀ (s : State) (n : Nat), DecodeEnding s → n = s.regs.width.toNat * s.regs.height.toNat →
    ∃ t, step s = .next t ∧ t.regs = s.regs ∧ (∀ a, t.pbufByte a = s.pbufByte a) ∧ NoByteMoved s t ∧
      (if s.regs.compressed = true then
        t.status = errorStatus .unsupportedCompression s.status ∧ SameMemory s t
      else if s.regs.width = 0 ∨ s.regs.height = 0 then
        t.status = errorStatus .invalidGeometry s.status ∧ SameMemory s t
      else if s.regs.payloadLen.toNat ≠ n * 2 then
        t.status = errorStatus .payloadSizeMismatch s.status ∧ SameMemory s t
      else if Config.fbufPixels < n ∨ Config.pbufBytes < s.regs.srcLen.toNat ∨
          s.regs.srcLen.toNat < s.regs.payloadOff.toNat + s.regs.payloadLen.toNat then
        t.status = errorStatus .configInvalid s.status ∧ SameMemory s t
      else t.status.err = false ∧ t.status.pixValid = true)

/-- R230, R251, R316, R320: as `ParseRunsToItsOutcome`, for DECODE. -/
def Obligations.DecodeRunsToItsOutcome : Prop :=
  ∀ (s r : State) (first : CycleIn) (mid rest : List CycleIn),
    s.status.busy = false → s.status.lfState = .idle → s.inputs = first :: (mid ++ rest) →
    first.rst = false → Sys2Proof.decode first.host = .ok .decode →
    mid.length = Config.decodeLatency → (∀ i ∈ mid, undisturbed i = true) → r = (startDecode s).decodeCommit →
    ∃ t, Sys2Proof.core.run (Config.decodeLatency + 1) s = .next t ∧
      t.regs = { s.regs with ccIn := t.regs.ccIn } ∧ t.status = { r.status with rejected := t.status.rejected } ∧
      t.status.busy = false ∧ t.status.done = true ∧ t.int.AtRest ∧ (∀ a, t.pbufByte a = s.pbufByte a) ∧
      (∀ i, t.fbufPixel i = r.fbufPixel i) ∧ t.txSent = s.txSent ∧ t.inputs = rest

/-! ### LINK_FETCH -/

/-- R183, R184, R250: LINK_FETCH with no command running and every start check passed starts the transfer. Of the internal elements
only `I.txi` is written (and the model's own `stored`, log 6). -/
def Obligations.LinkFetchStarts : Prop :=
  ∀ (s : State) (n : Nat), s.status.busy = false → s.sampled.env.linkUp = true →
    s.regs.width ≠ 0 → s.regs.height ≠ 0 → n = s.regs.width.toNat * s.regs.height.toNat * 2 →
    s.regs.packetCount ≠ 0 → n % s.regs.packetCount.toNat = 0 → n ≤ Config.pbufBytes → s.regs.readWindowMs ≠ 0 →
    ∃ t, exec .linkFetch s = .next t ∧
      t.status = { startedStatus 0x3 s.status with frameValid := false, lfState := .txReady } ∧
      t.regs = { s.regs with
        packetSize := BitVec.ofNat 32 (n / s.regs.packetCount.toNat), pktReceived := 0, retryCount := 0,
        elapsedMs := 0 } ∧
      t.regs.packetSize.toNat * s.regs.packetCount.toNat = n ∧ t.int.txi = 0 ∧ t.int.ann = s.int.ann ∧
      t.int.rdn = s.int.rdn ∧ t.int.rdw = s.int.rdw ∧ t.int.lat = s.int.lat ∧ t.int.res = s.int.res ∧
      SameMemory s t ∧ NoByteMoved s t ∧ QuietPorts t

/-- R183, R39: the start checks of LINK_FETCH in their order. A failing check ends the command at the edge of the write; the
counters, every other register and the memories stay; FRAME_VALID is cleared all the same (R250). -/
def Obligations.LinkFetchStartChecks : Prop :=
  ∀ (s : State) (n : Nat), s.status.busy = false → n = s.regs.width.toNat * s.regs.height.toNat * 2 →
    ∃ t, exec .linkFetch s = .next t ∧ SameMemory s t ∧ NoByteMoved s t ∧ QuietPorts t ∧
      (if s.sampled.env.linkUp = false then
        t.regs = s.regs ∧
          t.status = errorStatus .channelUnavailable { startedStatus 0x3 s.status with frameValid := false }
      else if s.regs.width = 0 ∨ s.regs.height = 0 then
        t.regs = s.regs ∧
          t.status = errorStatus .invalidGeometry { startedStatus 0x3 s.status with frameValid := false }
      else if s.regs.packetCount = 0 ∨ n % s.regs.packetCount.toNat ≠ 0 ∨ Config.pbufBytes < n ∨
          s.regs.readWindowMs = 0 then
        t.regs = s.regs ∧
          t.status = errorStatus .configInvalid { startedStatus 0x3 s.status with frameValid := false }
      else t.status.busy = true)

/-- R110: the control words. R182, R186, R193: while bytes of a control word remain, a cycle with `tx_ready = 1` sends byte `I.txi` and
advances; nothing else changes but ELAPSED_MS, by a pulse, in every TX_ state but TX_READY. No byte is consumed: `rx_ready = 0`, and
the receive queue keeps the cycle's arrivals. -/
def Obligations.ControlWordByteMoves : Prop :=
  controlWord .txReady = some [0x72, 0x65, 0x61, 0x64, 0x79, 0x0A] ∧
  controlWord .txContinue = some [0x63, 0x6F, 0x6E, 0x74, 0x69, 0x6E, 0x75, 0x65, 0x0A] ∧
  controlWord .txRetry = some [0x72, 0x65, 0x74, 0x72, 0x79, 0x0A] ∧
  controlWord .txEnd = some [0x65, 0x6E, 0x64, 0x0A] ∧
  ∀ (s : State) (st : LfState) (w : List Byte) (b : Byte), EngineIn st s → controlWord st = some w →
    s.sampled.env.txReady = true → s.int.txi + 1 < w.length → w[s.int.txi]? = some b →
    ∃ t, step s = .next t ∧ t.txSent = s.txSent ++ [b] ∧ t.int = { s.int with txi := s.int.txi + 1 } ∧
      t.status = s.status ∧ SameMemory s t ∧
      t.regs = { s.regs with elapsedMs := if st = .txReady then s.regs.elapsedMs else tickedElapsed s } ∧
      t.out.txValid = true ∧ t.out.txData = b ∧ t.out.rxReady = false ∧ t.rxQueue = applyRx s.sampled.env.rx s.rxQueue

/-- R186, R198, R199, R110: the last byte of each control word, and the state after it. `end`'s last byte is the success
of the command (R199). It is on `tx_data`, and no byte is consumed (R182). -/
def Obligations.ControlWordEnds : Prop :=
  ∀ (s : State) (st : LfState) (w : List Byte), EngineIn st s → controlWord st = some w →
    s.sampled.env.txReady = true → s.int.txi + 1 = w.length →
    ∃ t, step s = .next t ∧ t.txSent = s.txSent ++ [0x0A] ∧ t.out.txValid = true ∧ t.out.txData = 0x0A ∧
      t.out.rxReady = false ∧ t.rxQueue = applyRx s.sampled.env.rx s.rxQueue ∧ t.int.txi = 0 ∧ SameMemory s t ∧
      (st = .txReady → t.status = { s.status with lfState := .poll } ∧ t.regs = s.regs) ∧
      (st = .txContinue →
        t.status = { s.status with
          lfState := if s.regs.pktReceived.toNat < s.regs.packetCount.toNat then .check else .txEnd } ∧
        t.regs = { s.regs with elapsedMs := tickedElapsed s }) ∧
      (st = .txRetry →
        t.status = { s.status with lfState := .check } ∧
        t.regs = { s.regs with
          elapsedMs := tickedElapsed s
          retryCount := if s.regs.retryCount.toNat + 1 < 2 ^ 32 then s.regs.retryCount + 1 else s.regs.retryCount }) ∧
      (st = .txEnd →
        t.status = doneStatus { s.status with frameValid := true, hdrValid := false } ∧ t.int.AtRest ∧
        t.regs = { s.regs with
          payloadOff := 0
          payloadLen := BitVec.ofNat 32 (s.regs.width.toNat * s.regs.height.toNat * 2)
          srcLen := BitVec.ofNat 32 (s.regs.width.toNat * s.regs.height.toNat * 2)
          compressed := false })

/-- R182, R186, R192, R193, R194: a cycle of a TX_ state with `tx_ready = 0` offers byte `I.txi` of the word and sends nothing; no byte is
consumed, and the receive queue keeps the cycle's arrivals. It ends the command with
`TransferTimeout` exactly in TX_CONTINUE and TX_RETRY, with the deadline expired and packets missing; otherwise it only counts a
pulse, in every TX_ state but TX_READY. -/
def Obligations.StalledTransmit : Prop :=
  ∀ (s : State) (st : LfState) (w : List Byte), EngineIn st s → controlWord st = some w →
    s.sampled.env.txReady = false →
    ∃ t, step s = .next t ∧ NoByteMoved s t ∧ t.out.txValid = true ∧ (∀ b, w[s.int.txi]? = some b → t.out.txData = b) ∧
      t.out.rxReady = false ∧
      (if (st = .txContinue ∨ st = .txRetry) ∧ s.regs.deadlineMs.toNat < s.regs.elapsedMs.toNat ∧
          s.regs.pktReceived.toNat < s.regs.packetCount.toNat then
        t.status = errorStatus .transferTimeout s.status ∧ t.regs = s.regs ∧ t.int.AtRest
      else t.status = s.status ∧ t.int = s.int ∧ SameMemory s t ∧
        t.regs = { s.regs with elapsedMs := if st = .txReady then s.regs.elapsedMs else tickedElapsed s })

/-- R188: POLL's one cycle. -/
def Obligations.PollDecides : Prop :=
  ∀ (s : State) (q : List Byte), EngineIn .poll s → q = applyRx s.sampled.env.rx s.rxQueue →
    ∃ t, step s = .next t ∧ SameMemory s t ∧ NoByteMoved s t ∧
      (if q = [] then
        t.status = doneStatus { s.status with noframe := true } ∧ t.regs = s.regs ∧ t.int.AtRest
      else t.status = { s.status with lfState := .announce } ∧ t.regs = { s.regs with elapsedMs := 0 } ∧
        t.int = { s.int with ann := 0 })

/-- R189, R192, R193: ANNOUNCE consumes a presented byte and stores it nowhere; the second byte leads to TX_CONTINUE; without a
byte an expired deadline ends the command. -/
def Obligations.AnnounceDiscardsTwoBytes : Prop :=
  ∀ (s : State) (q : List Byte), EngineIn .announce s → s.int.ann < 2 →
    q = applyRx s.sampled.env.rx s.rxQueue →
    ∃ t, step s = .next t ∧ t.out.rxReady = true ∧ t.txSent = s.txSent ∧ t.rxQueue = q.tail ∧
      (if q ≠ [] then
        SameMemory s t ∧ t.regs = { s.regs with elapsedMs := tickedElapsed s } ∧
        (if s.int.ann = 1 then
          t.status = { s.status with lfState := .txContinue } ∧ t.int = { s.int with ann := 2, txi := 0 }
        else t.status = s.status ∧ t.int = { s.int with ann := 1 })
      else if s.regs.deadlineMs.toNat < s.regs.elapsedMs.toNat then
        t.status = errorStatus .transferTimeout s.status ∧ t.regs = s.regs
      else t.status = s.status ∧ t.int = s.int ∧ SameMemory s t ∧
        t.regs = { s.regs with elapsedMs := tickedElapsed s })

/-- R191, R192, R194: CHECK's one cycle: `TransferTimeout` if ELAPSED_MS exceeds DEADLINE_MS, strictly; otherwise a new read
attempt. A timeout changes no register but STATUS, and sends nothing. -/
def Obligations.CheckTestsDeadline : Prop :=
  ∀ s : State, EngineIn .check s →
    ∃ t, step s = .next t ∧ NoByteMoved s t ∧
      (if s.regs.deadlineMs.toNat < s.regs.elapsedMs.toNat then
        t.status = errorStatus .transferTimeout s.status ∧ t.regs = s.regs ∧ t.int.AtRest
      else t.status = { s.status with lfState := .read } ∧ t.int = { s.int with rdn := 0, rdw := 0 } ∧
        SameMemory s t ∧ t.regs = { s.regs with elapsedMs := tickedElapsed s })

/-- R195 to R198: READ's cycle. A presented byte goes to PBUF at `PKT_RECEIVED * PACKET_SIZE + I.rdn` and to no other address;
then a full attempt, a pulse, or neither. -/
def Obligations.ReadAttemptCycle : Prop :=
  ∀ (s : State) (q : List Byte) (n a : Nat), EngineIn .read s → q = applyRx s.sampled.env.rx s.rxQueue →
    a = s.regs.pktReceived.toNat * s.regs.packetSize.toNat + s.int.rdn → a < Config.pbufBytes →
    n = s.int.rdn + (if q = [] then 0 else 1) →
    ∃ t, step s = .next t ∧ t.out.rxReady = true ∧ t.txSent = s.txSent ∧ t.rxQueue = q.tail ∧
      (∀ b, q.head? = some b → t.pbufByte a = b) ∧ (∀ x, q = [] ∨ x ≠ a → t.pbufByte x = s.pbufByte x) ∧
      (∀ i, t.fbufPixel i = s.fbufPixel i) ∧ t.int.rdn = n ∧
      (if n = s.regs.packetSize.toNat then
        t.regs = { s.regs with pktReceived := s.regs.pktReceived + 1, elapsedMs := tickedElapsed s } ∧
        t.int.txi = 0 ∧
        t.status = { s.status with
          lfState :=
            if (s.regs.pktReceived + 1).toNat < s.regs.packetCount.toNat ∨ s.regs.lastCont = true then .txContinue
            else .txEnd }
      else t.regs = { s.regs with elapsedMs := tickedElapsed s } ∧
        (if s.sampled.env.tickMs = true then
          t.int.rdw = s.int.rdw + 1 ∧
          t.int.txi = (if s.regs.readWindowMs.toNat ≤ s.int.rdw + 1 then 0 else s.int.txi) ∧
          t.status = { s.status with
            lfState := if s.regs.readWindowMs.toNat ≤ s.int.rdw + 1 then .txRetry else .read }
        else t.int.rdw = s.int.rdw ∧ t.int.txi = s.int.txi ∧ t.status = s.status))

/-- R201, R205: a cycle of LINK_FETCH or RX_FLUSH with `link_up = 0` ends it with `ChannelUnavailable`; no byte moves, so the receive
queue keeps what it held and the cycle's arrivals; no register but STATUS changes; memory stays, for a LINK_FETCH outside the
payload's range (within it U2, as log 6 models it). -/
def Obligations.LinkDownEndsFetch : Prop :=
  ∀ s : State, s.sampled.rst = false → s.sampled.host = .idle → s.status.busy = true →
    (isFetchState s.status.lfState = true ∨ s.status.lfState = .flush) → s.sampled.env.linkUp = false →
    ∃ t, step s = .next t ∧ t.status = errorStatus .channelUnavailable s.status ∧ t.regs = s.regs ∧
      t.int.AtRest ∧ NoByteMoved s t ∧ t.out.txValid = false ∧ t.out.rxReady = false ∧
      (∀ i, t.fbufPixel i = s.fbufPixel i) ∧
      (∀ a, s.regs.width.toNat * s.regs.height.toNat * 2 ≤ a → t.pbufByte a = s.pbufByte a) ∧
      (s.status.lfState = .flush → SameMemory s t)

/-- R192: `TransferTimeout` arises at the points R192 lists and nowhere else, and only with the deadline expired. -/
def Obligations.TimeoutOnlyAtItsPoints : Prop :=
  ∀ s t : State, s.status.errcode = none → step s = .next t → t.status.errcode = some .transferTimeout →
    s.sampled.rst = false ∧ s.status.busy = true ∧ s.sampled.env.linkUp = true ∧
      s.regs.deadlineMs.toNat < s.regs.elapsedMs.toNat ∧
      (s.status.lfState = .check ∨
        (s.status.lfState = .announce ∧ applyRx s.sampled.env.rx s.rxQueue = []) ∨
        ((s.status.lfState = .txContinue ∨ s.status.lfState = .txRetry) ∧ s.sampled.env.txReady = false ∧
          s.regs.pktReceived.toNat < s.regs.packetCount.toNat))

/-- R188, R320: a LINK_FETCH that finds no byte at its poll ends after 7 cycles with NOFRAME, having sent `ready`. -/
def Obligations.NoFramePollTakesSevenCycles : Prop :=
  ∀ (s : State) (rest : List CycleIn), s.status.busy = false → s.rxQueue = [] →
    s.inputs = promptCommand 3 :: (List.replicate 7 promptCycle ++ rest) →
    s.fetchStartError true = none →
    ∃ t, Sys2Proof.core.run 8 s = .next t ∧ t.txSent = s.txSent ++ [0x72, 0x65, 0x61, 0x64, 0x79, 0x0A] ∧
      t.status.busy = false ∧ t.status.done = true ∧ t.status.err = false ∧ t.status.noframe = true ∧
      t.status.frameValid = false ∧ t.status.lastCmd = 3 ∧ SameMemory s t ∧ t.inputs = rest

/-- R180, R195 to R199, R320: with the channel never stalling, no pulse, and the announcement and the payload queued, LINK_FETCH
succeeds in `22 + N * (P + 10)` cycles after the write (9 fewer with LAST_CONT = 0), has put the payload in PBUF in order, has
sent `ready`, the `continue`s and `end`, and has consumed no byte beyond the payload. -/
def Obligations.PromptTransferSucceeds : Prop :=
  ∀ (s : State) (n p c k : Nat) (a0 a1 : Byte) (payload more : List Byte) (rest : List CycleIn),
    s.status.busy = false → s.fetchStartError true = none →
    n = s.regs.packetCount.toNat → p = s.regs.width.toNat * s.regs.height.toNat * 2 / n →
    c = (if s.regs.lastCont then n + 1 else n) → k = (if s.regs.lastCont then 22 else 13) + n * (p + 10) →
    s.rxQueue = a0 :: a1 :: (payload ++ more) → payload.length = n * p →
    s.inputs = promptCommand 3 :: (List.replicate k promptCycle ++ rest) →
    ∃ t, Sys2Proof.core.run (k + 1) s = .next t ∧
      t.status = { doneStatus (startedStatus 0x3 s.status) with frameValid := true, hdrValid := false } ∧
      t.regs = { s.regs with
        packetSize := BitVec.ofNat 32 p, pktReceived := s.regs.packetCount, retryCount := 0, elapsedMs := 0,
        payloadOff := 0, payloadLen := BitVec.ofNat 32 (n * p), srcLen := BitVec.ofNat 32 (n * p),
        compressed := false } ∧
      (∀ i b, payload[i]? = some b → t.pbufByte i = b) ∧ (∀ i, n * p ≤ i → t.pbufByte i = s.pbufByte i) ∧
      (∀ i, t.fbufPixel i = s.fbufPixel i) ∧ t.rxQueue = more ∧ t.txSent = s.txSent ++ successStream c ∧
      t.inputs = rest

/-- R204: while a LINK_FETCH or an RX_FLUSH runs, the values of the bytes in the receive queue and in PBUF influence nothing but
memory and the queue: not STATUS, not a register, not the engine, not what is sent, not the outputs. -/
def Obligations.ReceivedContentNotInspected : Prop :=
  ∀ (s t : State) (q : List Byte) (m : List Host.Cell), s.status.busy = true → s.status.lfState ≠ .idle →
    q.length = s.rxQueue.length → step s = .next t →
    ∃ t', step { s with rxQueue := q, pbuf := m } = .next t' ∧ t'.status = t.status ∧ t'.regs = t.regs ∧
      t'.int = t.int ∧ t'.txSent = t.txSent ∧ t'.out = t.out ∧ t'.rxQueue.length = t.rxQueue.length ∧ t'.fbuf = t.fbuf

/-! ### RX_FLUSH -/

/-- R205, R250: RX_FLUSH with no command running: with the link up it starts; with the link down it ends at once. -/
def Obligations.RxFlushStarts : Prop :=
  ∀ s : State, s.status.busy = false →
    ∃ t, exec .rxFlush s = .next t ∧ t.regs = s.regs ∧ SameMemory s t ∧ NoByteMoved s t ∧ QuietPorts t ∧
      (if s.sampled.env.linkUp = true then
        t.status = { startedStatus 0x4 s.status with lfState := .flush } ∧ t.int = s.int
      else t.status = errorStatus .channelUnavailable (startedStatus 0x4 s.status))

/-- R205, R320: a cycle of FLUSH with the link up discards the presented byte, or, with none, completes the command; it changes no
register but STATUS then, and no memory. So RX_FLUSH with `k` bytes queued, none arriving and the link up ends after `k + 1` cycles
with the queue empty; no register but STATUS changes, and nothing is sent or stored. -/
def Obligations.RxFlushEmptiesQueue : Prop :=
  (∀ (s : State) (q : List Byte), EngineIn .flush s → q = applyRx s.sampled.env.rx s.rxQueue →
    ∃ t, step s = .next t ∧ t.out.rxReady = true ∧ t.rxQueue = q.tail ∧ t.txSent = s.txSent ∧ SameMemory s t ∧
      t.regs = s.regs ∧
      (if q = [] then t.status = doneStatus s.status ∧ t.int.AtRest else t.status = s.status ∧ t.int = s.int)) ∧
  ∀ (s : State) (k : Nat) (rest : List CycleIn), s.status.busy = false →
    k = s.rxQueue.length → s.inputs = promptCommand 4 :: (List.replicate (k + 1) promptCycle ++ rest) →
    ∃ t, Sys2Proof.core.run (k + 2) s = .next t ∧ t.rxQueue = [] ∧
      t.status = doneStatus (startedStatus 0x4 s.status) ∧ t.regs = s.regs ∧ t.int.AtRest ∧
      SameMemory s t ∧ t.txSent = s.txSent ∧ t.inputs = rest

/-! ### The host port -/

/-- R28: where each field of STATUS stands; R271: the number of each error code; R185: the number of each state of the engine. -/
def Obligations.StatusLayout : Prop :=
  ∀ (linkUp : Bool) (s : State),
    let w := readReg linkUp .status s
    w.getLsbD 0 = s.status.busy ∧ w.getLsbD 1 = s.status.done ∧ w.getLsbD 2 = s.status.err ∧
    w.getLsbD 3 = s.status.hdrValid ∧ w.getLsbD 4 = s.status.frameValid ∧ w.getLsbD 5 = s.status.pixValid ∧
    w.getLsbD 6 = s.status.noframe ∧ w.getLsbD 7 = s.status.rejected ∧
    w.extractLsb' 8 4 =
      (match s.status.errcode with
        | none => 0
        | some .unsupportedFormatVersion => 1
        | some .truncatedHeader => 2
        | some .invalidGeometry => 3
        | some .payloadSizeMismatch => 4
        | some .unsupportedCompression => 5
        | some .transferTimeout => 6
        | some .channelUnavailable => 7
        | some .configInvalid => 8
        | some .cancelled => 9
        | some .illegalCommand => 10) ∧
    w.extractLsb' 12 4 = s.status.lastCmd ∧
    w.extractLsb' 16 4 =
      (match s.status.lfState with
        | .idle => 0
        | .txReady => 1
        | .poll => 2
        | .announce => 3
        | .txContinue => 4
        | .check => 5
        | .read => 6
        | .txRetry => 7
        | .txEnd => 8
        | .flush => 9) ∧
    w.getLsbD 20 = linkUp ∧ w.extractLsb' 21 11 = 0

/-- R26 to R42: the field that a read of each register returns (STATUS: StatusLayout; the data windows: DataWindowReads). R21, R23, R78,
R79: a host read returns the value of the start of the cycle; besides GPCL's own step, it changes nothing but a data window's
address. -/
def Obligations.HostReadReturnsStartValue : Prop :=
  (∀ (linkUp : Bool) (s : State),
    readReg linkUp .cmd s = 0 ∧ (readReg linkUp .cfg s).toNat = s.regs.lastCont.toNat ∧
    (readReg linkUp .ccIn s).toNat = s.regs.ccIn.toNat ∧
    (readReg linkUp .ccOut s).toNat =
      s.regs.ccIn.toNat / 2048 * 255 / 31 * 65536 + s.regs.ccIn.toNat / 32 % 64 * 255 / 63 * 256 +
        s.regs.ccIn.toNat % 32 * 255 / 31 ∧
    readReg linkUp .srcLen s = s.regs.srcLen ∧ readReg linkUp .cursor s = s.regs.cursor ∧
    (readReg linkUp .hdrVersion s).toNat = s.regs.hdrVersion.toNat ∧
    readReg linkUp .width s = s.regs.width ∧ readReg linkUp .height s = s.regs.height ∧
    readReg linkUp .frameId s = s.regs.frameId ∧ readReg linkUp .frameTimeMs s = s.regs.frameTimeMs ∧
    (readReg linkUp .hdrFlags s).toNat = s.regs.statusByte.toNat * 256 + s.regs.compressed.toNat ∧
    readReg linkUp .payloadOff s = s.regs.payloadOff ∧ readReg linkUp .payloadLen s = s.regs.payloadLen ∧
    readReg linkUp .packetCount s = s.regs.packetCount ∧ readReg linkUp .deadlineMs s = s.regs.deadlineMs ∧
    readReg linkUp .readWindowMs s = s.regs.readWindowMs ∧ readReg linkUp .packetSize s = s.regs.packetSize ∧
    readReg linkUp .pktReceived s = s.regs.pktReceived ∧ readReg linkUp .retryCount s = s.regs.retryCount ∧
    readReg linkUp .elapsedMs s = s.regs.elapsedMs ∧
    (readReg linkUp .pbufAddr s).toNat = s.regs.pbufAddr.toNat ∧
    (readReg linkUp .fbufAddr s).toNat = s.regs.fbufAddr.toNat) ∧
  ∀ (s u : State) (addr : BitVec 8) (r : HostReg), s.sampled.rst = false → s.sampled.host = .read addr →
    regAt addr = some r → s.beginCycle.strayStore s.sampled.env = none →
    u = s.beginCycle.unitStep s.sampled.env →
    ∃ t, step s = .next t ∧ t.out.hrdata = some (readReg s.sampled.env.linkUp r s) ∧
      t.status = u.status ∧ t.int = u.int ∧ SameMemory u t ∧ t.txSent = u.txSent ∧ t.rxQueue = u.rxQueue ∧
      t.regs = { u.regs with
        pbufAddr := if r = .pbufData ∧ s.status.busy = false then u.regs.pbufAddr + 1 else u.regs.pbufAddr
        fbufAddr := if r = .fbufData ∧ s.status.busy = false then u.regs.fbufAddr + 1 else u.regs.fbufAddr }

/-- R41, R42: the data windows: what a read returns, and that it returns 0 while a command runs. -/
def Obligations.DataWindowReads : Prop :=
  ∀ (s : State) (linkUp : Bool),
    (s.status.busy = true → readReg linkUp .pbufData s = 0 ∧ readReg linkUp .fbufData s = 0) ∧
    (s.status.busy = false →
      (readReg linkUp .pbufData s).toNat = (s.pbufByte s.regs.pbufAddr.toNat).toNat ∧
      (readReg linkUp .fbufData s).toNat = (s.fbufPixel s.regs.fbufAddr.toNat).toNat)

/-- R41: an accepted write of PBUF_DATA stores the low byte at PBUF_ADDR, changes no other byte, and advances PBUF_ADDR modulo
PBUF_BYTES. -/
def Obligations.PbufDataWrite : Prop :=
  ∀ (s : State) (addr : BitVec 8) (data : Word), s.sampled.rst = false → s.sampled.host = .write addr data →
    regAt addr = some .pbufData → s.status.busy = false →
    ∃ t, step s = .next t ∧ t.pbufByte s.regs.pbufAddr.toNat = data.extractLsb' 0 8 ∧
      (∀ a, a ≠ s.regs.pbufAddr.toNat → t.pbufByte a = s.pbufByte a) ∧ (∀ i, t.fbufPixel i = s.fbufPixel i) ∧
      t.regs.pbufAddr.toNat = (s.regs.pbufAddr.toNat + 1) % Config.pbufBytes ∧
      t.regs = { s.regs with pbufAddr := t.regs.pbufAddr } ∧ t.status = s.status ∧ NoByteMoved s t

/-- R26, R29 to R42, R71: with no command running, a write of a writable register other than CMD is seen by the next read: the
written word, less the bits that the register ignores; and no register that does not show it reads differently. -/
def Obligations.AcceptedWriteReadsBack : Prop :=
  ∀ (s : State) (addr : BitVec 8) (data : Word) (r : HostReg), s.sampled.rst = false →
    s.sampled.host = .write addr data → regAt addr = some r → r ≠ .cmd → r ≠ .pbufData → writable r = true →
    s.status.busy = false →
    ∃ t, step s = .next t ∧ SameMemory s t ∧ NoByteMoved s t ∧ t.int = s.int ∧ t.status = s.status ∧
      (∀ linkUp r', r' ∉ affectedBy r → readReg linkUp r' t = readReg linkUp r' s) ∧
      (∀ linkUp, readReg linkUp r t =
        match r with
        | .cfg => data &&& 1
        | .ccIn => data &&& 0xFFFF
        | .hdrFlags => (readReg linkUp .hdrFlags s &&& 0xFF00) ||| (data &&& 1)
        | .pbufAddr => data &&& 0x1FFFF
        | .fbufAddr => data &&& 0xFFFF
        | _ => data)

/-- R45: while a command runs, a write of a writable register other than CC_IN, and of CMD other than ABORT, changes nothing but
REJECTED; the running command takes its step. -/
def Obligations.BusyWriteIsRejected : Prop :=
  ∀ (s : State) (addr : BitVec 8) (data : Word) (r : HostReg), s.sampled.rst = false →
    s.sampled.host = .write addr data → regAt addr = some r → writable r = true → r ≠ .ccIn →
    (r = .cmd → data.extractLsb' 0 4 ≠ 5) → s.status.busy = true →
    s.beginCycle.strayStore s.sampled.env = none →
    step s = .next
      { s.beginCycle.unitStep s.sampled.env with
        status := { (s.beginCycle.unitStep s.sampled.env).status with rejected := true } }

/-- R26, R44, R45: a write of a read-only register or of an unmapped offset is ignored, in every state, without setting REJECTED;
a read of an unmapped offset returns 0 on `hrdata` and changes nothing else: the next state is otherwise that of GPCL's own step. -/
def Obligations.IgnoredAccesses : Prop :=
  ∀ (s : State) (addr : BitVec 8) (data : Word), s.sampled.rst = false →
    s.beginCycle.strayStore s.sampled.env = none →
    (s.sampled.host = .write addr data → (∀ r, regAt addr = some r → writable r = false) →
      step s = .next (s.beginCycle.unitStep s.sampled.env)) ∧
    (s.sampled.host = .read addr → regAt addr = none →
      step s = .next
        { s.beginCycle.unitStep s.sampled.env with
          out := { (s.beginCycle.unitStep s.sampled.env).out with hrdata := some 0 } })

/-- R26: the register at each offset; R72: an access reaches the register at the enclosing word's offset; R44: nothing is mapped from 0x68
on. -/
def Obligations.RegisterMap : Prop :=
  regAt 0x00 = some .cmd ∧ regAt 0x04 = some .status ∧ regAt 0x08 = some .cfg ∧ regAt 0x0C = some .ccIn ∧
  regAt 0x10 = some .ccOut ∧ regAt 0x14 = some .srcLen ∧ regAt 0x18 = some .cursor ∧
  regAt 0x1C = some .hdrVersion ∧ regAt 0x20 = some .width ∧ regAt 0x24 = some .height ∧
  regAt 0x28 = some .frameId ∧ regAt 0x2C = some .frameTimeMs ∧ regAt 0x30 = some .hdrFlags ∧
  regAt 0x34 = some .payloadOff ∧ regAt 0x38 = some .payloadLen ∧ regAt 0x3C = some .packetCount ∧
  regAt 0x40 = some .deadlineMs ∧ regAt 0x44 = some .readWindowMs ∧ regAt 0x48 = some .packetSize ∧
  regAt 0x4C = some .pktReceived ∧ regAt 0x50 = some .retryCount ∧ regAt 0x54 = some .elapsedMs ∧
  regAt 0x58 = some .pbufAddr ∧ regAt 0x5C = some .pbufData ∧ regAt 0x60 = some .fbufAddr ∧
  regAt 0x64 = some .fbufData ∧
  (∀ addr : BitVec 8, regAt addr = regAt (addr &&& 0xFC)) ∧ (∀ r : HostReg, regAt r.offset = some r) ∧
    (∀ addr : BitVec 8, regAt addr = none ↔ 0x68 ≤ addr.toNat)

/-- R28, R279: REJECTED is cleared by an accepted CLEAR and by reset only. -/
def Obligations.RejectedIsSticky : Prop :=
  ∀ s t : State, step s = .next t → s.status.rejected = true → t.status.rejected = false →
    s.sampled.rst = true ∨ (s.status.busy = false ∧ Sys2Proof.decode s.sampled.host = .ok .clear)

/-- R25, R250, R302: a command starts only by an accepted write of one of the four start opcodes, and LAST_CMD is then its
opcode. -/
def Obligations.OnlyStartCommandsSetBusy : Prop :=
  ∀ s t : State, step s = .next t → s.status.busy = false → t.status.busy = true →
    ∃ i, Sys2Proof.decode s.sampled.host = .ok i ∧ (i = .parse ∨ i = .decode ∨ i = .linkFetch ∨ i = .rxFlush) ∧
      opcodeOf i = some t.status.lastCmd

/-! ### The whole machine -/

/-- R45, R82, R251: while a command runs on, no register changes but CC_IN and the three counters of the link. R43, R169, R239: a PARSE
or DECODE changes no PBUF byte. That no FBUF entry changes while a DECODE runs on is the model's choice, DEDUCED, log 7: R251 lets a
DECODE that succeeds write FBUF in any of its cycles; no other command writes FBUF (R43). -/
def Obligations.OperandsFixedWhileBusy : Prop :=
  ∀ s t : State, s.status.busy = true → step s = .next t → t.status.busy = true →
    t.regs = { s.regs with
      ccIn := t.regs.ccIn, pktReceived := t.regs.pktReceived, retryCount := t.regs.retryCount,
      elapsedMs := t.regs.elapsedMs } ∧
    (∀ i, t.fbufPixel i = s.fbufPixel i) ∧ (s.status.lfState = .idle → ∀ a, t.pbufByte a = s.pbufByte a)

/-- R43, R169, R239: a byte of PBUF changes only by an accepted PBUF_DATA write, by a byte that READ takes, or, in the payload's
range, when a LINK_FETCH ends without success (U2, as log 6 models it). -/
def Obligations.WhoWritesPbuf : Prop :=
  ∀ (s t : State) (a : Nat), step s = .next t → t.pbufByte a ≠ s.pbufByte a →
    (s.status.busy = false ∧ s.sampled.rst = false ∧ a = s.regs.pbufAddr.toNat ∧
      ∃ addr data, s.sampled.host = .write addr data ∧ regAt addr = some .pbufData) ∨
    (s.status.busy = true ∧ s.sampled.rst = false ∧ s.status.lfState = .read ∧ a = s.storeAddr ∧
      s.sampled.env.linkUp = true ∧ applyRx s.sampled.env.rx s.rxQueue ≠ []) ∨
    (s.status.busy = true ∧ isFetchState s.status.lfState = true ∧ a < s.payloadBytes ∧ t.status.busy = false ∧
      (s.sampled.rst = true ∨ t.status.err = true))

/-- R43, R236, R238, R251: an entry of FBUF changes only by a DECODE that succeeds or would have succeeded, and only below `W*H`. That it
changes only in the step that ends the DECODE is the model's choice, DEDUCED, log 7: R251 lets it change in any of the DECODE's cycles.
The step ends it by its success, or (U3, as log 7 models it) by a cut, a reset or an ABORT that cancels, of one that would have
succeeded, which is read from `I.res` (R40; that it holds the outcome from the start on: DEDUCED, log 10). -/
def Obligations.WhoWritesFbuf : Prop :=
  ∀ (s t : State) (i : Nat), step s = .next t → t.fbufPixel i ≠ s.fbufPixel i →
    s.status.busy = true ∧ s.status.lfState = .idle ∧ s.status.lastCmd = 2 ∧ i < s.pixelCount ∧
      t.status.busy = false ∧
      ((t.status.pixValid = true ∧ t.status.err = false) ∨
        (s.int.res = some .success ∧
          (s.sampled.rst = true ∨ (Sys2Proof.decode s.sampled.host = .ok .abort ∧ t.status.errcode = some .cancelled))))

/-- R182, R301: in which states `tx_valid` and `rx_ready` are 1, and what `tx_data` is; in a reset cycle both are 0. R23, R84: a byte
moves on TX exactly in a cycle with `tx_valid` and `tx_ready`, and it is `tx_data`; a byte leaves the receive queue exactly in a cycle
with `rx_valid` and `rx_ready`, and it is the oldest. -/
def Obligations.BytesMoveByHandshake : Prop :=
  ∀ (s t : State) (q : List Byte), step s = .next t → q = applyRx s.sampled.env.rx s.rxQueue →
    t.txSent = s.txSent ++ (if t.out.txValid && s.sampled.env.txReady then [t.out.txData] else []) ∧
    t.rxQueue = (if t.out.rxReady && !q.isEmpty then q.tail else q) ∧
    (s.sampled.rst = true → t.out.txValid = false ∧ t.out.rxReady = false) ∧
    (s.sampled.rst = false →
      (t.out.rxReady = true ↔ s.status.busy = true ∧ s.sampled.env.linkUp = true ∧
        (s.status.lfState = .announce ∨ s.status.lfState = .read ∨ s.status.lfState = .flush)) ∧
      (t.out.txValid = true ↔ s.status.busy = true ∧ s.sampled.env.linkUp = true ∧
        (s.status.lfState = .txReady ∨ s.status.lfState = .txContinue ∨ s.status.lfState = .txRetry ∨
          s.status.lfState = .txEnd)) ∧
      (∀ w b, t.out.txValid = true → controlWord s.status.lfState = some w → w[s.int.txi]? = some b → t.out.txData = b) ∧
      (t.out.txValid = false → t.out.txData = 0))

/-- R21, R286: with no command running and an idle host, a cycle changes nothing and no byte moves. -/
def Obligations.IdleIsQuiescent : Prop :=
  ∀ s : State, s.status.busy = false → s.sampled.rst = false → s.sampled.host = .idle →
    ∃ t, step s = .next t ∧ t.status = s.status ∧ t.regs = s.regs ∧ t.int = s.int ∧ SameMemory s t ∧
      NoByteMoved s t ∧ QuietPorts t

/-- R22, R300, R301, R303: a reset cycle, from every state: registers and internal elements at their reset values, `hrdata` 0, no
byte moved; the memories stay, but for what U2 and U3 leave open of the command that was cut (log 6, log 7, log 10): FBUF stays
whole unless a DECODE that would have succeeded was running. -/
def Obligations.ResetCycle : Prop :=
  ∀ s : State, s.sampled.rst = true →
    ∃ t, step s = .next t ∧ t.status = State.reset.status ∧ t.regs = State.reset.regs ∧ t.int = State.reset.int ∧
      t.out = State.reset.out ∧ NoByteMoved s t ∧
      (s.status.busy = false → SameMemory s t) ∧
      (∀ a, s.regs.width.toNat * s.regs.height.toNat * 2 ≤ a → t.pbufByte a = s.pbufByte a) ∧
      (∀ i, s.regs.width.toNat * s.regs.height.toNat ≤ i → t.fbufPixel i = s.fbufPixel i) ∧
      (isFetchState s.status.lfState = false → ∀ a, t.pbufByte a = s.pbufByte a) ∧
      (¬ (s.status.busy = true ∧ s.status.lfState = .idle ∧ s.status.lastCmd = 2 ∧ s.int.res = some .success) →
        ∀ i, t.fbufPixel i = s.fbufPixel i)

/-- R26, R300: what the host reads after reset, register by register. READ_WINDOW_MS is the OPEN parameter; the two data windows show
memory that reset does not change. -/
def Obligations.ResetRegisterValues : Prop :=
  ∀ (linkUp : Bool) (r : HostReg), r ≠ .pbufData → r ≠ .fbufData →
    readReg linkUp r State.reset =
      match r with
      | .status => if linkUp then 0x00100000 else 0
      | .cfg => 1
      | .width => 240
      | .height => 240
      | .packetCount => 16
      | .deadlineMs => 500
      | .readWindowMs => Config.readWindowReset
      | _ => 0

/-- The invariant (R28, R40, R183, R202, R250, R273, R274; for `I.res`: log 10) holds after reset. -/
def Obligations.ResetMeetsInvariant : Prop :=
  State.reset.Inv

/-- The invariant is kept by every step, with any inputs. -/
def Obligations.StepKeepsInvariant : Prop :=
  ∀ s t : State, s.Inv → step s = .next t → t.Inv

/-- R270: from a state that meets the invariant GPCL never stops: every step has a next state, which meets it again. -/
def Obligations.NeverStops : Prop :=
  ∀ s : State, s.Inv → s.StepsSafely

/-- R202: during a LINK_FETCH the accumulated length never exceeds the payload, and the address a byte is stored at is below it. -/
def Obligations.FetchStaysInPayload : Prop :=
  ∀ s : State, s.Inv → s.status.busy = true → isFetchState s.status.lfState = true →
    s.regs.pktReceived.toNat * s.regs.packetSize.toNat ≤ s.payloadBytes ∧ s.payloadBytes ≤ Config.pbufBytes ∧
      (s.status.lfState = .read → s.storeAddr < s.payloadBytes)
end

