-- ==== Sys2Proof/Laws/State.lean ====
section
/-!
SUPPORT. One lemma per field per update of State, so that no proof unfolds a record update.
-/

namespace Sys2Proof.Machine

@[simp] theorem State.complete_status (e : Option ErrCode) (s : State) :
    (s.complete e).status =
      { s.status with busy := false, done := true, err := e.isSome, errcode := e, lfState := .idle } := rfl
@[simp] theorem State.complete_regs (e : Option ErrCode) (s : State) : (s.complete e).regs = s.regs := rfl
@[simp] theorem State.complete_int (e : Option ErrCode) (s : State) : (s.complete e).int = Internal.zero := rfl
@[simp] theorem State.complete_pbuf (e : Option ErrCode) (s : State) : (s.complete e).pbuf = s.pbuf := rfl
@[simp] theorem State.complete_fbuf (e : Option ErrCode) (s : State) : (s.complete e).fbuf = s.fbuf := rfl
@[simp] theorem State.complete_rxQueue (e : Option ErrCode) (s : State) : (s.complete e).rxQueue = s.rxQueue := rfl
@[simp] theorem State.complete_txSent (e : Option ErrCode) (s : State) : (s.complete e).txSent = s.txSent := rfl
@[simp] theorem State.complete_out (e : Option ErrCode) (s : State) : (s.complete e).out = s.out := rfl
@[simp] theorem State.complete_inputs (e : Option ErrCode) (s : State) : (s.complete e).inputs = s.inputs := rfl
@[simp] theorem State.complete_cycle (e : Option ErrCode) (s : State) : (s.complete e).cycle = s.cycle := rfl
@[simp] theorem State.complete_draws (e : Option ErrCode) (s : State) : (s.complete e).draws = s.draws := rfl

@[simp] theorem State.finish_status (s : State) :
    (s.finish).status =
      { s.status with busy := false, done := true, err := false, errcode := none, lfState := .idle } := rfl
@[simp] theorem State.finish_regs (s : State) : (s.finish).regs = s.regs := rfl
@[simp] theorem State.finish_int (s : State) : (s.finish).int = Internal.zero := rfl
@[simp] theorem State.finish_pbuf (s : State) : (s.finish).pbuf = s.pbuf := rfl
@[simp] theorem State.finish_fbuf (s : State) : (s.finish).fbuf = s.fbuf := rfl
@[simp] theorem State.finish_rxQueue (s : State) : (s.finish).rxQueue = s.rxQueue := rfl
@[simp] theorem State.finish_txSent (s : State) : (s.finish).txSent = s.txSent := rfl
@[simp] theorem State.finish_out (s : State) : (s.finish).out = s.out := rfl
@[simp] theorem State.finish_inputs (s : State) : (s.finish).inputs = s.inputs := rfl
@[simp] theorem State.finish_cycle (s : State) : (s.finish).cycle = s.cycle := rfl
@[simp] theorem State.finish_draws (s : State) : (s.finish).draws = s.draws := rfl

@[simp] theorem State.raise_status (e : ErrCode) (s : State) :
    (s.raise e).status =
      { s.status with busy := false, done := true, err := true, errcode := some e, lfState := .idle } := rfl
@[simp] theorem State.raise_regs (e : ErrCode) (s : State) : (s.raise e).regs = s.regs := rfl
@[simp] theorem State.raise_int (e : ErrCode) (s : State) : (s.raise e).int = Internal.zero := rfl
@[simp] theorem State.raise_pbuf (e : ErrCode) (s : State) : (s.raise e).pbuf = s.pbuf := rfl
@[simp] theorem State.raise_fbuf (e : ErrCode) (s : State) : (s.raise e).fbuf = s.fbuf := rfl
@[simp] theorem State.raise_rxQueue (e : ErrCode) (s : State) : (s.raise e).rxQueue = s.rxQueue := rfl
@[simp] theorem State.raise_txSent (e : ErrCode) (s : State) : (s.raise e).txSent = s.txSent := rfl
@[simp] theorem State.raise_out (e : ErrCode) (s : State) : (s.raise e).out = s.out := rfl
@[simp] theorem State.raise_inputs (e : ErrCode) (s : State) : (s.raise e).inputs = s.inputs := rfl
@[simp] theorem State.raise_cycle (e : ErrCode) (s : State) : (s.raise e).cycle = s.cycle := rfl
@[simp] theorem State.raise_draws (e : ErrCode) (s : State) : (s.raise e).draws = s.draws := rfl

@[simp] theorem State.acknowledge_status (s : State) :
    (s.acknowledge).status =
      { s.status with done := false, err := false, errcode := none, noframe := false, rejected := false } := rfl
@[simp] theorem State.acknowledge_regs (s : State) : (s.acknowledge).regs = s.regs := rfl
@[simp] theorem State.acknowledge_int (s : State) : (s.acknowledge).int = s.int := rfl
@[simp] theorem State.acknowledge_pbuf (s : State) : (s.acknowledge).pbuf = s.pbuf := rfl
@[simp] theorem State.acknowledge_fbuf (s : State) : (s.acknowledge).fbuf = s.fbuf := rfl
@[simp] theorem State.acknowledge_rxQueue (s : State) : (s.acknowledge).rxQueue = s.rxQueue := rfl
@[simp] theorem State.acknowledge_txSent (s : State) : (s.acknowledge).txSent = s.txSent := rfl
@[simp] theorem State.acknowledge_out (s : State) : (s.acknowledge).out = s.out := rfl
@[simp] theorem State.acknowledge_inputs (s : State) : (s.acknowledge).inputs = s.inputs := rfl
@[simp] theorem State.acknowledge_cycle (s : State) : (s.acknowledge).cycle = s.cycle := rfl
@[simp] theorem State.acknowledge_draws (s : State) : (s.acknowledge).draws = s.draws := rfl

@[simp] theorem State.start_status (op : BitVec 4) (s : State) :
    (s.start op).status =
      { s.status with done := false, err := false, errcode := none, noframe := false, lastCmd := op, busy := true } := rfl
@[simp] theorem State.start_regs (op : BitVec 4) (s : State) : (s.start op).regs = s.regs := rfl
@[simp] theorem State.start_int (op : BitVec 4) (s : State) : (s.start op).int = s.int := rfl
@[simp] theorem State.start_pbuf (op : BitVec 4) (s : State) : (s.start op).pbuf = s.pbuf := rfl
@[simp] theorem State.start_fbuf (op : BitVec 4) (s : State) : (s.start op).fbuf = s.fbuf := rfl
@[simp] theorem State.start_rxQueue (op : BitVec 4) (s : State) : (s.start op).rxQueue = s.rxQueue := rfl
@[simp] theorem State.start_txSent (op : BitVec 4) (s : State) : (s.start op).txSent = s.txSent := rfl
@[simp] theorem State.start_out (op : BitVec 4) (s : State) : (s.start op).out = s.out := rfl
@[simp] theorem State.start_inputs (op : BitVec 4) (s : State) : (s.start op).inputs = s.inputs := rfl
@[simp] theorem State.start_cycle (op : BitVec 4) (s : State) : (s.start op).cycle = s.cycle := rfl
@[simp] theorem State.start_draws (op : BitVec 4) (s : State) : (s.start op).draws = s.draws := rfl

@[simp] theorem State.reject_status (s : State) : (s.reject).status = { s.status with rejected := true } := rfl
@[simp] theorem State.reject_regs (s : State) : (s.reject).regs = s.regs := rfl
@[simp] theorem State.reject_int (s : State) : (s.reject).int = s.int := rfl
@[simp] theorem State.reject_pbuf (s : State) : (s.reject).pbuf = s.pbuf := rfl
@[simp] theorem State.reject_fbuf (s : State) : (s.reject).fbuf = s.fbuf := rfl
@[simp] theorem State.reject_rxQueue (s : State) : (s.reject).rxQueue = s.rxQueue := rfl
@[simp] theorem State.reject_txSent (s : State) : (s.reject).txSent = s.txSent := rfl
@[simp] theorem State.reject_out (s : State) : (s.reject).out = s.out := rfl
@[simp] theorem State.reject_inputs (s : State) : (s.reject).inputs = s.inputs := rfl
@[simp] theorem State.reject_cycle (s : State) : (s.reject).cycle = s.cycle := rfl
@[simp] theorem State.reject_draws (s : State) : (s.reject).draws = s.draws := rfl

@[simp] theorem State.sent_status (b : Byte) (s : State) : (s.sent b).status = s.status := rfl
@[simp] theorem State.sent_regs (b : Byte) (s : State) : (s.sent b).regs = s.regs := rfl
@[simp] theorem State.sent_int (b : Byte) (s : State) : (s.sent b).int = s.int := rfl
@[simp] theorem State.sent_pbuf (b : Byte) (s : State) : (s.sent b).pbuf = s.pbuf := rfl
@[simp] theorem State.sent_fbuf (b : Byte) (s : State) : (s.sent b).fbuf = s.fbuf := rfl
@[simp] theorem State.sent_rxQueue (b : Byte) (s : State) : (s.sent b).rxQueue = s.rxQueue := rfl
@[simp] theorem State.sent_txSent (b : Byte) (s : State) : (s.sent b).txSent = s.txSent ++ [b] := rfl
@[simp] theorem State.sent_out (b : Byte) (s : State) : (s.sent b).out = s.out := rfl
@[simp] theorem State.sent_inputs (b : Byte) (s : State) : (s.sent b).inputs = s.inputs := rfl
@[simp] theorem State.sent_cycle (b : Byte) (s : State) : (s.sent b).cycle = s.cycle := rfl
@[simp] theorem State.sent_draws (b : Byte) (s : State) : (s.sent b).draws = s.draws := rfl

@[simp] theorem State.goto_status (st : LfState) (s : State) :
    (s.goto st).status =
      { s.status with lfState := st } := rfl
@[simp] theorem State.goto_regs (st : LfState) (s : State) : (s.goto st).regs = s.regs := rfl
@[simp] theorem State.goto_int (st : LfState) (s : State) : (s.goto st).int = s.int := rfl
@[simp] theorem State.goto_pbuf (st : LfState) (s : State) : (s.goto st).pbuf = s.pbuf := rfl
@[simp] theorem State.goto_fbuf (st : LfState) (s : State) : (s.goto st).fbuf = s.fbuf := rfl
@[simp] theorem State.goto_rxQueue (st : LfState) (s : State) : (s.goto st).rxQueue = s.rxQueue := rfl
@[simp] theorem State.goto_txSent (st : LfState) (s : State) : (s.goto st).txSent = s.txSent := rfl
@[simp] theorem State.goto_out (st : LfState) (s : State) : (s.goto st).out = s.out := rfl
@[simp] theorem State.goto_inputs (st : LfState) (s : State) : (s.goto st).inputs = s.inputs := rfl
@[simp] theorem State.goto_cycle (st : LfState) (s : State) : (s.goto st).cycle = s.cycle := rfl
@[simp] theorem State.goto_draws (st : LfState) (s : State) : (s.goto st).draws = s.draws := rfl

@[simp] theorem State.setTxi_status (v : Nat) (s : State) : (s.setTxi v).status = s.status := rfl
@[simp] theorem State.setTxi_regs (v : Nat) (s : State) : (s.setTxi v).regs = s.regs := rfl
@[simp] theorem State.setTxi_int (v : Nat) (s : State) : (s.setTxi v).int = { s.int with txi := v } := rfl
@[simp] theorem State.setTxi_pbuf (v : Nat) (s : State) : (s.setTxi v).pbuf = s.pbuf := rfl
@[simp] theorem State.setTxi_fbuf (v : Nat) (s : State) : (s.setTxi v).fbuf = s.fbuf := rfl
@[simp] theorem State.setTxi_rxQueue (v : Nat) (s : State) : (s.setTxi v).rxQueue = s.rxQueue := rfl
@[simp] theorem State.setTxi_txSent (v : Nat) (s : State) : (s.setTxi v).txSent = s.txSent := rfl
@[simp] theorem State.setTxi_out (v : Nat) (s : State) : (s.setTxi v).out = s.out := rfl
@[simp] theorem State.setTxi_inputs (v : Nat) (s : State) : (s.setTxi v).inputs = s.inputs := rfl
@[simp] theorem State.setTxi_cycle (v : Nat) (s : State) : (s.setTxi v).cycle = s.cycle := rfl
@[simp] theorem State.setTxi_draws (v : Nat) (s : State) : (s.setTxi v).draws = s.draws := rfl

@[simp] theorem State.countRetry_status (s : State) : (s.countRetry).status = s.status := rfl
@[simp] theorem State.countRetry_regs (s : State) :
    (s.countRetry).regs =
      { s.regs with retryCount := satInc s.regs.retryCount } := rfl
@[simp] theorem State.countRetry_int (s : State) : (s.countRetry).int = s.int := rfl
@[simp] theorem State.countRetry_pbuf (s : State) : (s.countRetry).pbuf = s.pbuf := rfl
@[simp] theorem State.countRetry_fbuf (s : State) : (s.countRetry).fbuf = s.fbuf := rfl
@[simp] theorem State.countRetry_rxQueue (s : State) : (s.countRetry).rxQueue = s.rxQueue := rfl
@[simp] theorem State.countRetry_txSent (s : State) : (s.countRetry).txSent = s.txSent := rfl
@[simp] theorem State.countRetry_out (s : State) : (s.countRetry).out = s.out := rfl
@[simp] theorem State.countRetry_inputs (s : State) : (s.countRetry).inputs = s.inputs := rfl
@[simp] theorem State.countRetry_cycle (s : State) : (s.countRetry).cycle = s.cycle := rfl
@[simp] theorem State.countRetry_draws (s : State) : (s.countRetry).draws = s.draws := rfl

@[simp] theorem State.setCcIn_status (d : Word) (s : State) : (s.setCcIn d).status = s.status := rfl
@[simp] theorem State.setCcIn_regs (d : Word) (s : State) :
    (s.setCcIn d).regs =
      { s.regs with ccIn := d.setWidth 16 } := rfl
@[simp] theorem State.setCcIn_int (d : Word) (s : State) : (s.setCcIn d).int = s.int := rfl
@[simp] theorem State.setCcIn_pbuf (d : Word) (s : State) : (s.setCcIn d).pbuf = s.pbuf := rfl
@[simp] theorem State.setCcIn_fbuf (d : Word) (s : State) : (s.setCcIn d).fbuf = s.fbuf := rfl
@[simp] theorem State.setCcIn_rxQueue (d : Word) (s : State) : (s.setCcIn d).rxQueue = s.rxQueue := rfl
@[simp] theorem State.setCcIn_txSent (d : Word) (s : State) : (s.setCcIn d).txSent = s.txSent := rfl
@[simp] theorem State.setCcIn_out (d : Word) (s : State) : (s.setCcIn d).out = s.out := rfl
@[simp] theorem State.setCcIn_inputs (d : Word) (s : State) : (s.setCcIn d).inputs = s.inputs := rfl
@[simp] theorem State.setCcIn_cycle (d : Word) (s : State) : (s.setCcIn d).cycle = s.cycle := rfl
@[simp] theorem State.setCcIn_draws (d : Word) (s : State) : (s.setCcIn d).draws = s.draws := rfl

@[simp] theorem State.drive_status (v : Word) (s : State) : (s.drive v).status = s.status := rfl
@[simp] theorem State.drive_regs (v : Word) (s : State) : (s.drive v).regs = s.regs := rfl
@[simp] theorem State.drive_int (v : Word) (s : State) : (s.drive v).int = s.int := rfl
@[simp] theorem State.drive_pbuf (v : Word) (s : State) : (s.drive v).pbuf = s.pbuf := rfl
@[simp] theorem State.drive_fbuf (v : Word) (s : State) : (s.drive v).fbuf = s.fbuf := rfl
@[simp] theorem State.drive_rxQueue (v : Word) (s : State) : (s.drive v).rxQueue = s.rxQueue := rfl
@[simp] theorem State.drive_txSent (v : Word) (s : State) : (s.drive v).txSent = s.txSent := rfl
@[simp] theorem State.drive_out (v : Word) (s : State) : (s.drive v).out = { s.out with hrdata := some v } := rfl
@[simp] theorem State.drive_inputs (v : Word) (s : State) : (s.drive v).inputs = s.inputs := rfl
@[simp] theorem State.drive_cycle (v : Word) (s : State) : (s.drive v).cycle = s.cycle := rfl
@[simp] theorem State.drive_draws (v : Word) (s : State) : (s.drive v).draws = s.draws := rfl

@[simp] theorem State.advancePbuf_status (s : State) : (s.advancePbuf).status = s.status := rfl
@[simp] theorem State.advancePbuf_regs (s : State) :
    (s.advancePbuf).regs =
      { s.regs with pbufAddr := s.regs.pbufAddr + 1 } := rfl
@[simp] theorem State.advancePbuf_int (s : State) : (s.advancePbuf).int = s.int := rfl
@[simp] theorem State.advancePbuf_pbuf (s : State) : (s.advancePbuf).pbuf = s.pbuf := rfl
@[simp] theorem State.advancePbuf_fbuf (s : State) : (s.advancePbuf).fbuf = s.fbuf := rfl
@[simp] theorem State.advancePbuf_rxQueue (s : State) : (s.advancePbuf).rxQueue = s.rxQueue := rfl
@[simp] theorem State.advancePbuf_txSent (s : State) : (s.advancePbuf).txSent = s.txSent := rfl
@[simp] theorem State.advancePbuf_out (s : State) : (s.advancePbuf).out = s.out := rfl
@[simp] theorem State.advancePbuf_inputs (s : State) : (s.advancePbuf).inputs = s.inputs := rfl
@[simp] theorem State.advancePbuf_cycle (s : State) : (s.advancePbuf).cycle = s.cycle := rfl
@[simp] theorem State.advancePbuf_draws (s : State) : (s.advancePbuf).draws = s.draws := rfl

@[simp] theorem State.advanceFbuf_status (s : State) : (s.advanceFbuf).status = s.status := rfl
@[simp] theorem State.advanceFbuf_regs (s : State) :
    (s.advanceFbuf).regs =
      { s.regs with fbufAddr := s.regs.fbufAddr + 1 } := rfl
@[simp] theorem State.advanceFbuf_int (s : State) : (s.advanceFbuf).int = s.int := rfl
@[simp] theorem State.advanceFbuf_pbuf (s : State) : (s.advanceFbuf).pbuf = s.pbuf := rfl
@[simp] theorem State.advanceFbuf_fbuf (s : State) : (s.advanceFbuf).fbuf = s.fbuf := rfl
@[simp] theorem State.advanceFbuf_rxQueue (s : State) : (s.advanceFbuf).rxQueue = s.rxQueue := rfl
@[simp] theorem State.advanceFbuf_txSent (s : State) : (s.advanceFbuf).txSent = s.txSent := rfl
@[simp] theorem State.advanceFbuf_out (s : State) : (s.advanceFbuf).out = s.out := rfl
@[simp] theorem State.advanceFbuf_inputs (s : State) : (s.advanceFbuf).inputs = s.inputs := rfl
@[simp] theorem State.advanceFbuf_cycle (s : State) : (s.advanceFbuf).cycle = s.cycle := rfl
@[simp] theorem State.advanceFbuf_draws (s : State) : (s.advanceFbuf).draws = s.draws := rfl

@[simp] theorem State.setCursor_status (c : Nat) (s : State) : (s.setCursor c).status = s.status := rfl
@[simp] theorem State.setCursor_regs (c : Nat) (s : State) :
    (s.setCursor c).regs =
      { s.regs with cursor := BitVec.ofNat 32 c } := rfl
@[simp] theorem State.setCursor_int (c : Nat) (s : State) : (s.setCursor c).int = s.int := rfl
@[simp] theorem State.setCursor_pbuf (c : Nat) (s : State) : (s.setCursor c).pbuf = s.pbuf := rfl
@[simp] theorem State.setCursor_fbuf (c : Nat) (s : State) : (s.setCursor c).fbuf = s.fbuf := rfl
@[simp] theorem State.setCursor_rxQueue (c : Nat) (s : State) : (s.setCursor c).rxQueue = s.rxQueue := rfl
@[simp] theorem State.setCursor_txSent (c : Nat) (s : State) : (s.setCursor c).txSent = s.txSent := rfl
@[simp] theorem State.setCursor_out (c : Nat) (s : State) : (s.setCursor c).out = s.out := rfl
@[simp] theorem State.setCursor_inputs (c : Nat) (s : State) : (s.setCursor c).inputs = s.inputs := rfl
@[simp] theorem State.setCursor_cycle (c : Nat) (s : State) : (s.setCursor c).cycle = s.cycle := rfl
@[simp] theorem State.setCursor_draws (c : Nat) (s : State) : (s.setCursor c).draws = s.draws := rfl

@[simp] theorem State.setHdrVersion_status (v : Half) (s : State) : (s.setHdrVersion v).status = s.status := rfl
@[simp] theorem State.setHdrVersion_regs (v : Half) (s : State) :
    (s.setHdrVersion v).regs =
      { s.regs with hdrVersion := v } := rfl
@[simp] theorem State.setHdrVersion_int (v : Half) (s : State) : (s.setHdrVersion v).int = s.int := rfl
@[simp] theorem State.setHdrVersion_pbuf (v : Half) (s : State) : (s.setHdrVersion v).pbuf = s.pbuf := rfl
@[simp] theorem State.setHdrVersion_fbuf (v : Half) (s : State) : (s.setHdrVersion v).fbuf = s.fbuf := rfl
@[simp] theorem State.setHdrVersion_rxQueue (v : Half) (s : State) : (s.setHdrVersion v).rxQueue = s.rxQueue := rfl
@[simp] theorem State.setHdrVersion_txSent (v : Half) (s : State) : (s.setHdrVersion v).txSent = s.txSent := rfl
@[simp] theorem State.setHdrVersion_out (v : Half) (s : State) : (s.setHdrVersion v).out = s.out := rfl
@[simp] theorem State.setHdrVersion_inputs (v : Half) (s : State) : (s.setHdrVersion v).inputs = s.inputs := rfl
@[simp] theorem State.setHdrVersion_cycle (v : Half) (s : State) : (s.setHdrVersion v).cycle = s.cycle := rfl
@[simp] theorem State.setHdrVersion_draws (v : Half) (s : State) : (s.setHdrVersion v).draws = s.draws := rfl

@[simp] theorem State.setPixValid_status (s : State) :
    (s.setPixValid).status =
      { s.status with pixValid := true } := rfl
@[simp] theorem State.setPixValid_regs (s : State) : (s.setPixValid).regs = s.regs := rfl
@[simp] theorem State.setPixValid_int (s : State) : (s.setPixValid).int = s.int := rfl
@[simp] theorem State.setPixValid_pbuf (s : State) : (s.setPixValid).pbuf = s.pbuf := rfl
@[simp] theorem State.setPixValid_fbuf (s : State) : (s.setPixValid).fbuf = s.fbuf := rfl
@[simp] theorem State.setPixValid_rxQueue (s : State) : (s.setPixValid).rxQueue = s.rxQueue := rfl
@[simp] theorem State.setPixValid_txSent (s : State) : (s.setPixValid).txSent = s.txSent := rfl
@[simp] theorem State.setPixValid_out (s : State) : (s.setPixValid).out = s.out := rfl
@[simp] theorem State.setPixValid_inputs (s : State) : (s.setPixValid).inputs = s.inputs := rfl
@[simp] theorem State.setPixValid_cycle (s : State) : (s.setPixValid).cycle = s.cycle := rfl
@[simp] theorem State.setPixValid_draws (s : State) : (s.setPixValid).draws = s.draws := rfl

@[simp] theorem State.convertPayload_status (s : State) : (s.convertPayload).status = s.status := rfl
@[simp] theorem State.convertPayload_regs (s : State) : (s.convertPayload).regs = s.regs := rfl
@[simp] theorem State.convertPayload_int (s : State) : (s.convertPayload).int = s.int := rfl
@[simp] theorem State.convertPayload_pbuf (s : State) : (s.convertPayload).pbuf = s.pbuf := rfl
@[simp] theorem State.convertPayload_fbuf (s : State) :
    (s.convertPayload).fbuf =
      Memory.setPrefix s.pixelCount (fun i => convPixel (s.payloadSample i)) s.fbuf := rfl
@[simp] theorem State.convertPayload_rxQueue (s : State) : (s.convertPayload).rxQueue = s.rxQueue := rfl
@[simp] theorem State.convertPayload_txSent (s : State) : (s.convertPayload).txSent = s.txSent := rfl
@[simp] theorem State.convertPayload_out (s : State) : (s.convertPayload).out = s.out := rfl
@[simp] theorem State.convertPayload_inputs (s : State) : (s.convertPayload).inputs = s.inputs := rfl
@[simp] theorem State.convertPayload_cycle (s : State) : (s.convertPayload).cycle = s.cycle := rfl
@[simp] theorem State.convertPayload_draws (s : State) : (s.convertPayload).draws = s.draws := rfl

@[simp] theorem State.freePbufPrefix_status (n : Nat) (s : State) : (s.freePbufPrefix n).status = s.status := rfl
@[simp] theorem State.freePbufPrefix_regs (n : Nat) (s : State) : (s.freePbufPrefix n).regs = s.regs := rfl
@[simp] theorem State.freePbufPrefix_int (n : Nat) (s : State) : (s.freePbufPrefix n).int = s.int := rfl
@[simp] theorem State.freePbufPrefix_pbuf (n : Nat) (s : State) :
    (s.freePbufPrefix n).pbuf =
      Memory.setPrefix (min n Config.pbufBytes) (fun a => Config.freePbuf s.draws a) s.pbuf := rfl
@[simp] theorem State.freePbufPrefix_fbuf (n : Nat) (s : State) : (s.freePbufPrefix n).fbuf = s.fbuf := rfl
@[simp] theorem State.freePbufPrefix_rxQueue (n : Nat) (s : State) : (s.freePbufPrefix n).rxQueue = s.rxQueue := rfl
@[simp] theorem State.freePbufPrefix_txSent (n : Nat) (s : State) : (s.freePbufPrefix n).txSent = s.txSent := rfl
@[simp] theorem State.freePbufPrefix_out (n : Nat) (s : State) : (s.freePbufPrefix n).out = s.out := rfl
@[simp] theorem State.freePbufPrefix_inputs (n : Nat) (s : State) : (s.freePbufPrefix n).inputs = s.inputs := rfl
@[simp] theorem State.freePbufPrefix_cycle (n : Nat) (s : State) : (s.freePbufPrefix n).cycle = s.cycle := rfl
@[simp] theorem State.freePbufPrefix_draws (n : Nat) (s : State) : (s.freePbufPrefix n).draws = s.draws + 1 := rfl

@[simp] theorem State.freeFbufPrefix_status (n : Nat) (s : State) : (s.freeFbufPrefix n).status = s.status := rfl
@[simp] theorem State.freeFbufPrefix_regs (n : Nat) (s : State) : (s.freeFbufPrefix n).regs = s.regs := rfl
@[simp] theorem State.freeFbufPrefix_int (n : Nat) (s : State) : (s.freeFbufPrefix n).int = s.int := rfl
@[simp] theorem State.freeFbufPrefix_pbuf (n : Nat) (s : State) : (s.freeFbufPrefix n).pbuf = s.pbuf := rfl
@[simp] theorem State.freeFbufPrefix_fbuf (n : Nat) (s : State) :
    (s.freeFbufPrefix n).fbuf =
      Memory.setPrefix (min n Config.fbufPixels) (fun i => Config.freeFbuf s.draws i) s.fbuf := rfl
@[simp] theorem State.freeFbufPrefix_rxQueue (n : Nat) (s : State) : (s.freeFbufPrefix n).rxQueue = s.rxQueue := rfl
@[simp] theorem State.freeFbufPrefix_txSent (n : Nat) (s : State) : (s.freeFbufPrefix n).txSent = s.txSent := rfl
@[simp] theorem State.freeFbufPrefix_out (n : Nat) (s : State) : (s.freeFbufPrefix n).out = s.out := rfl
@[simp] theorem State.freeFbufPrefix_inputs (n : Nat) (s : State) : (s.freeFbufPrefix n).inputs = s.inputs := rfl
@[simp] theorem State.freeFbufPrefix_cycle (n : Nat) (s : State) : (s.freeFbufPrefix n).cycle = s.cycle := rfl
@[simp] theorem State.freeFbufPrefix_draws (n : Nat) (s : State) : (s.freeFbufPrefix n).draws = s.draws + 1 := rfl

@[simp] theorem State.beginCycle_status (s : State) : (s.beginCycle).status = s.status := rfl
@[simp] theorem State.beginCycle_regs (s : State) : (s.beginCycle).regs = s.regs := rfl
@[simp] theorem State.beginCycle_int (s : State) : (s.beginCycle).int = s.int := rfl
@[simp] theorem State.beginCycle_pbuf (s : State) : (s.beginCycle).pbuf = s.pbuf := rfl
@[simp] theorem State.beginCycle_fbuf (s : State) : (s.beginCycle).fbuf = s.fbuf := rfl
@[simp] theorem State.beginCycle_rxQueue (s : State) :
    (s.beginCycle).rxQueue =
      applyRx s.sampled.env.rx s.rxQueue := rfl
@[simp] theorem State.beginCycle_txSent (s : State) : (s.beginCycle).txSent = s.txSent := rfl
@[simp] theorem State.beginCycle_out (s : State) : (s.beginCycle).out = s.ports s.sampled.env.linkUp := rfl
@[simp] theorem State.beginCycle_inputs (s : State) : (s.beginCycle).inputs = s.inputs.tail := rfl
@[simp] theorem State.beginCycle_cycle (s : State) : (s.beginCycle).cycle = s.cycle + 1 := rfl
@[simp] theorem State.beginCycle_draws (s : State) : (s.beginCycle).draws = s.draws := rfl

@[simp] theorem State.acceptHeader_status (c : Nat) (s : State) :
    (s.acceptHeader c).status =
      { s.status with hdrValid := true } := rfl
@[simp] theorem State.acceptHeader_regs (c : Nat) (s : State) :
    (s.acceptHeader c).regs =
      { s.regs with
        width := s.memRead4 (c + 2)
        height := s.memRead4 (c + 6)
        frameId := s.memRead4 (c + 10)
        frameTimeMs := s.memRead4 (c + 14)
        compressed := (s.pbufByte (c + 18)).getLsbD 0
        statusByte := s.pbufByte (c + 18)
        payloadOff := BitVec.ofNat 32 (c + Config.headerLen)
        payloadLen := BitVec.ofNat 32 (s.regs.srcLen.toNat - (c + Config.headerLen)) } := rfl
@[simp] theorem State.acceptHeader_int (c : Nat) (s : State) : (s.acceptHeader c).int = s.int := rfl
@[simp] theorem State.acceptHeader_pbuf (c : Nat) (s : State) : (s.acceptHeader c).pbuf = s.pbuf := rfl
@[simp] theorem State.acceptHeader_fbuf (c : Nat) (s : State) : (s.acceptHeader c).fbuf = s.fbuf := rfl
@[simp] theorem State.acceptHeader_rxQueue (c : Nat) (s : State) : (s.acceptHeader c).rxQueue = s.rxQueue := rfl
@[simp] theorem State.acceptHeader_txSent (c : Nat) (s : State) : (s.acceptHeader c).txSent = s.txSent := rfl
@[simp] theorem State.acceptHeader_out (c : Nat) (s : State) : (s.acceptHeader c).out = s.out := rfl
@[simp] theorem State.acceptHeader_inputs (c : Nat) (s : State) : (s.acceptHeader c).inputs = s.inputs := rfl
@[simp] theorem State.acceptHeader_cycle (c : Nat) (s : State) : (s.acceptHeader c).cycle = s.cycle := rfl
@[simp] theorem State.acceptHeader_draws (c : Nat) (s : State) : (s.acceptHeader c).draws = s.draws := rfl

@[simp] theorem State.prepareFetch_status (s : State) :
    (s.prepareFetch).status =
      { s.status with lfState := .txReady } := rfl
@[simp] theorem State.prepareFetch_regs (s : State) :
    (s.prepareFetch).regs =
      { s.regs with
        packetSize := BitVec.ofNat 32 (s.payloadBytes / s.regs.packetCount.toNat)
        pktReceived := 0
        retryCount := 0
        elapsedMs := 0 } := rfl
@[simp] theorem State.prepareFetch_int (s : State) :
    (s.prepareFetch).int =
      { s.int with txi := 0, stored := false } := rfl
@[simp] theorem State.prepareFetch_pbuf (s : State) : (s.prepareFetch).pbuf = s.pbuf := rfl
@[simp] theorem State.prepareFetch_fbuf (s : State) : (s.prepareFetch).fbuf = s.fbuf := rfl
@[simp] theorem State.prepareFetch_rxQueue (s : State) : (s.prepareFetch).rxQueue = s.rxQueue := rfl
@[simp] theorem State.prepareFetch_txSent (s : State) : (s.prepareFetch).txSent = s.txSent := rfl
@[simp] theorem State.prepareFetch_out (s : State) : (s.prepareFetch).out = s.out := rfl
@[simp] theorem State.prepareFetch_inputs (s : State) : (s.prepareFetch).inputs = s.inputs := rfl
@[simp] theorem State.prepareFetch_cycle (s : State) : (s.prepareFetch).cycle = s.cycle := rfl
@[simp] theorem State.prepareFetch_draws (s : State) : (s.prepareFetch).draws = s.draws := rfl

@[simp] theorem State.dropPulse_regs (start s : State) :
    (State.dropPulse start s).regs =
      { s.regs with
        elapsedMs := if countsElapsed start.status.lfState then start.regs.elapsedMs else s.regs.elapsedMs } := rfl
@[simp] theorem State.dropPulse_status (start s : State) : (State.dropPulse start s).status = s.status := rfl
@[simp] theorem State.dropPulse_int (start s : State) : (State.dropPulse start s).int = s.int := rfl
@[simp] theorem State.dropPulse_pbuf (start s : State) : (State.dropPulse start s).pbuf = s.pbuf := rfl
@[simp] theorem State.dropPulse_fbuf (start s : State) : (State.dropPulse start s).fbuf = s.fbuf := rfl
@[simp] theorem State.dropPulse_rxQueue (start s : State) : (State.dropPulse start s).rxQueue = s.rxQueue := rfl
@[simp] theorem State.dropPulse_txSent (start s : State) : (State.dropPulse start s).txSent = s.txSent := rfl
@[simp] theorem State.dropPulse_out (start s : State) : (State.dropPulse start s).out = s.out := rfl
@[simp] theorem State.dropPulse_inputs (start s : State) : (State.dropPulse start s).inputs = s.inputs := rfl
@[simp] theorem State.dropPulse_cycle (start s : State) : (State.dropPulse start s).cycle = s.cycle := rfl
@[simp] theorem State.dropPulse_draws (start s : State) : (State.dropPulse start s).draws = s.draws := rfl

@[simp] theorem State.pbufWrite_status (a : Nat) (v : Byte) (s : State) : (s.pbufWrite a v).status = s.status := by
  unfold State.pbufWrite; split <;> rfl
@[simp] theorem State.pbufWrite_regs (a : Nat) (v : Byte) (s : State) : (s.pbufWrite a v).regs = s.regs := by
  unfold State.pbufWrite; split <;> rfl
@[simp] theorem State.pbufWrite_int (a : Nat) (v : Byte) (s : State) : (s.pbufWrite a v).int = s.int := by
  unfold State.pbufWrite; split <;> rfl
@[simp] theorem State.pbufWrite_fbuf (a : Nat) (v : Byte) (s : State) : (s.pbufWrite a v).fbuf = s.fbuf := by
  unfold State.pbufWrite; split <;> rfl
@[simp] theorem State.pbufWrite_rxQueue (a : Nat) (v : Byte) (s : State) : (s.pbufWrite a v).rxQueue = s.rxQueue := by
  unfold State.pbufWrite; split <;> rfl
@[simp] theorem State.pbufWrite_txSent (a : Nat) (v : Byte) (s : State) : (s.pbufWrite a v).txSent = s.txSent := by
  unfold State.pbufWrite; split <;> rfl
@[simp] theorem State.pbufWrite_out (a : Nat) (v : Byte) (s : State) : (s.pbufWrite a v).out = s.out := by
  unfold State.pbufWrite; split <;> rfl
@[simp] theorem State.pbufWrite_inputs (a : Nat) (v : Byte) (s : State) : (s.pbufWrite a v).inputs = s.inputs := by
  unfold State.pbufWrite; split <;> rfl
@[simp] theorem State.pbufWrite_cycle (a : Nat) (v : Byte) (s : State) : (s.pbufWrite a v).cycle = s.cycle := by
  unfold State.pbufWrite; split <;> rfl
@[simp] theorem State.pbufWrite_draws (a : Nat) (v : Byte) (s : State) : (s.pbufWrite a v).draws = s.draws := by
  unfold State.pbufWrite; split <;> rfl

@[simp] theorem State.loseFetched_status (s : State) : (s.loseFetched).status = s.status := by
  unfold State.loseFetched; split <;> rfl
@[simp] theorem State.loseFetched_regs (s : State) : (s.loseFetched).regs = s.regs := by
  unfold State.loseFetched; split <;> rfl
@[simp] theorem State.loseFetched_int (s : State) : (s.loseFetched).int = s.int := by
  unfold State.loseFetched; split <;> rfl
@[simp] theorem State.loseFetched_fbuf (s : State) : (s.loseFetched).fbuf = s.fbuf := by
  unfold State.loseFetched; split <;> rfl
@[simp] theorem State.loseFetched_rxQueue (s : State) : (s.loseFetched).rxQueue = s.rxQueue := by
  unfold State.loseFetched; split <;> rfl
@[simp] theorem State.loseFetched_txSent (s : State) : (s.loseFetched).txSent = s.txSent := by
  unfold State.loseFetched; split <;> rfl
@[simp] theorem State.loseFetched_out (s : State) : (s.loseFetched).out = s.out := by
  unfold State.loseFetched; split <;> rfl
@[simp] theorem State.loseFetched_inputs (s : State) : (s.loseFetched).inputs = s.inputs := by
  unfold State.loseFetched; split <;> rfl
@[simp] theorem State.loseFetched_cycle (s : State) : (s.loseFetched).cycle = s.cycle := by
  unfold State.loseFetched; split <;> rfl

@[simp] theorem State.cutMemory_status (s : State) : s.cutMemory.status = s.status := by
  unfold State.cutMemory
  split
  · split
    · split <;> simp
    · rfl
    all_goals simp
  · rfl
@[simp] theorem State.cutMemory_regs (s : State) : s.cutMemory.regs = s.regs := by
  unfold State.cutMemory
  split
  · split
    · split <;> simp
    · rfl
    all_goals simp
  · rfl
@[simp] theorem State.cutMemory_int (s : State) : s.cutMemory.int = s.int := by
  unfold State.cutMemory
  split
  · split
    · split <;> simp
    · rfl
    all_goals simp
  · rfl
@[simp] theorem State.cutMemory_rxQueue (s : State) : s.cutMemory.rxQueue = s.rxQueue := by
  unfold State.cutMemory
  split
  · split
    · split <;> simp
    · rfl
    all_goals simp
  · rfl
@[simp] theorem State.cutMemory_txSent (s : State) : s.cutMemory.txSent = s.txSent := by
  unfold State.cutMemory
  split
  · split
    · split <;> simp
    · rfl
    all_goals simp
  · rfl
@[simp] theorem State.cutMemory_out (s : State) : s.cutMemory.out = s.out := by
  unfold State.cutMemory
  split
  · split
    · split <;> simp
    · rfl
    all_goals simp
  · rfl
@[simp] theorem State.cutMemory_inputs (s : State) : s.cutMemory.inputs = s.inputs := by
  unfold State.cutMemory
  split
  · split
    · split <;> simp
    · rfl
    all_goals simp
  · rfl
@[simp] theorem State.cutMemory_cycle (s : State) : s.cutMemory.cycle = s.cycle := by
  unfold State.cutMemory
  split
  · split
    · split <;> simp
    · rfl
    all_goals simp
  · rfl

@[simp] theorem State.cancel_status (start s : State) :
    (State.cancel start s).status =
      { s.status with busy := false, done := true, err := true, errcode := some .cancelled, lfState := .idle } := by
  simp [State.cancel]
@[simp] theorem State.cancel_regs (start s : State) :
    (State.cancel start s).regs =
      { s.regs with
        elapsedMs := if countsElapsed start.status.lfState then start.regs.elapsedMs else s.regs.elapsedMs } := by
  simp [State.cancel]
@[simp] theorem State.cancel_int (start s : State) : (State.cancel start s).int = Internal.zero := rfl
@[simp] theorem State.cancel_pbuf (start s : State) : (State.cancel start s).pbuf = s.cutMemory.pbuf := rfl
@[simp] theorem State.cancel_fbuf (start s : State) : (State.cancel start s).fbuf = s.cutMemory.fbuf := rfl
@[simp] theorem State.cancel_draws (start s : State) : (State.cancel start s).draws = s.cutMemory.draws := rfl
@[simp] theorem State.cancel_rxQueue (start s : State) : (State.cancel start s).rxQueue = s.rxQueue := by simp [State.cancel]
@[simp] theorem State.cancel_txSent (start s : State) : (State.cancel start s).txSent = s.txSent := by simp [State.cancel]
@[simp] theorem State.cancel_out (start s : State) : (State.cancel start s).out = s.out := by simp [State.cancel]
@[simp] theorem State.cancel_inputs (start s : State) : (State.cancel start s).inputs = s.inputs := by simp [State.cancel]
@[simp] theorem State.cancel_cycle (start s : State) : (State.cancel start s).cycle = s.cycle := by simp [State.cancel]

end Sys2Proof.Machine
end

