-- ==== Sys2Proof/Laws/Memory.lean ====
section
/-!
SUPPORT. The laws of memory: what a write and a prefix write leave at each address, and that both keep the canonical form.
-/

namespace Sys2Proof.Machine

variable {w : Nat}

theorem Memory.lookup_write (a b : Nat) (v : BitVec w) (m : Memory w) :
    Memory.lookup b (Memory.write a v m) = if b = a then some v else Memory.lookup b m := by
  induction m with
  | nil => simp [Memory.write, Memory.lookup]
  | cons c m ih =>
    obtain ⟨k, u⟩ := c
    unfold Memory.write
    split
    · simp only [Memory.lookup]
    · split
      · subst_vars
        simp only [Memory.lookup]
        split <;> rfl
      · simp only [Memory.lookup, ih]
        split <;> split <;> first | rfl | omega

theorem Memory.wfFrom_mono {lo lo' bound : Nat} (h : lo' ≤ lo) (m : Memory w)
    (hm : Memory.wfFrom lo bound m = true) : Memory.wfFrom lo' bound m = true := by
  cases m with
  | nil => rfl
  | cons c m =>
    simp only [Memory.wfFrom, Bool.and_eq_true, decide_eq_true_eq] at hm ⊢
    exact ⟨⟨by omega, hm.1.2⟩, hm.2⟩

theorem Memory.wfFrom_write {lo bound a : Nat} (v : BitVec w) (hlo : lo ≤ a) (ha : a < bound) (m : Memory w)
    (hm : Memory.wfFrom lo bound m = true) : Memory.wfFrom lo bound (Memory.write a v m) = true := by
  induction m generalizing lo with
  | nil => simp [Memory.write, Memory.wfFrom, hlo, ha]
  | cons c m ih =>
    obtain ⟨k, u⟩ := c
    simp only [Memory.wfFrom, Bool.and_eq_true, decide_eq_true_eq] at hm
    obtain ⟨⟨h1, h2⟩, h3⟩ := hm
    unfold Memory.write
    split
    · simp only [Memory.wfFrom, Bool.and_eq_true, decide_eq_true_eq]
      exact ⟨⟨hlo, ha⟩, ⟨by omega, h2⟩, h3⟩
    · split
      · subst_vars
        simp only [Memory.wfFrom, Bool.and_eq_true, decide_eq_true_eq]
        exact ⟨⟨hlo, ha⟩, h3⟩
      · simp only [Memory.wfFrom, Bool.and_eq_true, decide_eq_true_eq]
        exact ⟨⟨h1, h2⟩, ih (by omega) h3⟩

/-- A write below the bound keeps the canonical form. -/
theorem Memory.wf_write {bound a : Nat} (v : BitVec w) (ha : a < bound) (m : Memory w)
    (hm : Memory.wf bound m = true) : Memory.wf bound (Memory.write a v m) = true :=
  Memory.wfFrom_write v (Nat.zero_le a) ha m hm

theorem Memory.lookup_append (b : Nat) (m n : Memory w) :
    Memory.lookup b (m ++ n) = (Memory.lookup b m).or (Memory.lookup b n) := by
  induction m with
  | nil => rfl
  | cons c m ih =>
    simp only [List.cons_append, Memory.lookup]
    split
    · rfl
    · exact ih

theorem Memory.lookup_filter (b n : Nat) (m : Memory w) :
    Memory.lookup b (m.filter (fun c => decide (n ≤ c.1))) = if n ≤ b then Memory.lookup b m else none := by
  induction m with
  | nil => simp [Memory.lookup]
  | cons c m ih =>
    obtain ⟨k, u⟩ := c
    by_cases hk : n ≤ k
    · simp only [List.filter_cons, hk, decide_true, if_true, Memory.lookup, ih]
      by_cases hb : b = k
      · subst hb; simp [hk]
      · simp [hb]
    · simp only [List.filter_cons, hk, decide_false, Memory.lookup]
      by_cases hn : n ≤ b
      · have hb : b ≠ k := by omega
        simp [hn, hb, ih]
      · simp [hn, ih]

theorem Memory.lookup_map_range (b n : Nat) (f : Nat → BitVec w) (k : Nat) :
    Memory.lookup b ((List.range' k n).map (fun i => (i, f i))) = if k ≤ b ∧ b < k + n then some (f b) else none := by
  induction n generalizing k with
  | zero => simp [Memory.lookup]
  | succ n ih =>
    simp only [List.range'_succ, List.map_cons, Memory.lookup, ih]
    by_cases hb : b = k
    · subst hb; simp
    · simp only [hb, if_false]
      congr 1
      apply propext
      omega

theorem Memory.lookup_setPrefix (b n : Nat) (f : Nat → BitVec w) (m : Memory w) :
    Memory.lookup b (Memory.setPrefix n f m) = if b < n then some (f b) else Memory.lookup b m := by
  unfold Memory.setPrefix
  rw [Memory.lookup_append, Memory.lookup_filter, List.range_eq_range', Memory.lookup_map_range]
  by_cases hb : b < n
  · have : ¬ n ≤ b := by omega
    simp [hb, this]
  · have : n ≤ b := by omega
    simp [hb, this]

theorem Memory.wfFrom_append_filter (n bound lo k : Nat) (f : Nat → BitVec w) (m : Memory w) (hk : k + n ≤ bound)
    (hlo : lo ≤ k) (hm : Memory.wfFrom (k + n) bound m = true) :
    Memory.wfFrom lo bound ((List.range' k n).map (fun i => (i, f i)) ++ m) = true := by
  induction n generalizing k lo with
  | zero => exact Memory.wfFrom_mono (by omega) m hm
  | succ n ih =>
    simp only [List.range'_succ, List.map_cons, List.cons_append, Memory.wfFrom, Bool.and_eq_true, decide_eq_true_eq]
    refine ⟨⟨hlo, by omega⟩, ih (k + 1) (k + 1) (by omega) (Nat.le_refl _) ?_⟩
    rw [show k + 1 + n = k + (n + 1) by omega]
    exact hm

theorem Memory.wfFrom_filter (n lo bound : Nat) (m : Memory w) (hm : Memory.wfFrom lo bound m = true) :
    Memory.wfFrom (max n lo) bound (m.filter (fun c => decide (n ≤ c.1))) = true := by
  induction m generalizing lo with
  | nil => rfl
  | cons c m ih =>
    obtain ⟨k, u⟩ := c
    simp only [Memory.wfFrom, Bool.and_eq_true, decide_eq_true_eq] at hm
    obtain ⟨⟨h1, h2⟩, h3⟩ := hm
    by_cases hk : n ≤ k
    · simp only [List.filter_cons, hk, decide_true, if_true, Memory.wfFrom, Bool.and_eq_true, decide_eq_true_eq]
      refine ⟨⟨by omega, h2⟩, ?_⟩
      have := ih (k + 1) h3
      rwa [Nat.max_eq_right (by omega)] at this
    · simp only [List.filter_cons, hk, decide_false]
      exact Memory.wfFrom_mono (by omega) _ (ih (k + 1) h3)

/-- A write of a prefix within the bound keeps the canonical form. -/
theorem Memory.wf_setPrefix {bound n : Nat} (f : Nat → BitVec w) (hn : n ≤ bound) (m : Memory w)
    (hm : Memory.wf bound m = true) : Memory.wf bound (Memory.setPrefix n f m) = true := by
  unfold Memory.wf Memory.setPrefix
  rw [List.range_eq_range']
  refine Memory.wfFrom_append_filter n bound 0 0 f _ (by omega) (Nat.le_refl _) ?_
  have h := Memory.wfFrom_filter n 0 bound m hm
  rw [Nat.max_eq_left (Nat.zero_le _)] at h
  rwa [Nat.zero_add]

/-- The byte a PBUF write leaves at each address. -/
theorem State.pbufByte_pbufWrite (a b : Nat) (v : Byte) (s : State) :
    (s.pbufWrite a v).pbufByte b = if b = a ∧ a < Config.pbufBytes then v else s.pbufByte b := by
  unfold State.pbufWrite State.pbufByte
  by_cases ha : a < Config.pbufBytes
  · by_cases hb : b = a <;> simp [ha, hb, Memory.lookup_write]
  · simp [ha]

/-- What a draw of PBUF's prefix leaves at each address (U2). -/
theorem State.pbufByte_freePbufPrefix (n b : Nat) (s : State) :
    (s.freePbufPrefix n).pbufByte b =
      if b < min n Config.pbufBytes then Config.freePbuf s.draws b else s.pbufByte b := by
  unfold State.pbufByte
  rw [State.freePbufPrefix_pbuf, Memory.lookup_setPrefix]
  by_cases hb : b < min n Config.pbufBytes
  · rw [if_pos hb, if_pos hb]; rfl
  · rw [if_neg hb, if_neg hb]

/-- What a draw of FBUF's prefix leaves at each index (U3). -/
theorem State.fbufPixel_freeFbufPrefix (n i : Nat) (s : State) :
    (s.freeFbufPrefix n).fbufPixel i =
      if i < min n Config.fbufPixels then Config.freeFbuf s.draws i else s.fbufPixel i := by
  unfold State.fbufPixel
  rw [State.freeFbufPrefix_fbuf, Memory.lookup_setPrefix]
  by_cases hb : i < min n Config.fbufPixels
  · rw [if_pos hb, if_pos hb]; rfl
  · rw [if_neg hb, if_neg hb]

/-- What DECODE's bulk path leaves at each index (R235, R236). -/
theorem State.fbufPixel_convertPayload (i : Nat) (s : State) :
    s.convertPayload.fbufPixel i = if i < s.pixelCount then convPixel (s.payloadSample i) else s.fbufPixel i := by
  unfold State.fbufPixel
  rw [State.convertPayload_fbuf, Memory.lookup_setPrefix]
  by_cases hb : i < s.pixelCount
  · rw [if_pos hb, if_pos hb]; rfl
  · rw [if_neg hb, if_neg hb]

/-- A write of PBUF keeps both memories canonical. -/
theorem State.pbufWrite_memoryOk (a : Nat) (v : Byte) {s : State} (h : s.MemoryOk) : (s.pbufWrite a v).MemoryOk := by
  unfold State.pbufWrite
  split
  · exact ⟨Memory.wf_write v ‹_› s.pbuf h.1, h.2⟩
  · exact h

/-- A draw of PBUF's prefix keeps both memories canonical. -/
theorem State.freePbufPrefix_memoryOk (n : Nat) {s : State} (h : s.MemoryOk) : (s.freePbufPrefix n).MemoryOk :=
  ⟨Memory.wf_setPrefix _ (Nat.min_le_right _ _) s.pbuf h.1, h.2⟩

/-- A draw of FBUF's prefix keeps both memories canonical. -/
theorem State.freeFbufPrefix_memoryOk (n : Nat) {s : State} (h : s.MemoryOk) : (s.freeFbufPrefix n).MemoryOk :=
  ⟨h.1, Memory.wf_setPrefix _ (Nat.min_le_right _ _) s.fbuf h.2⟩

/-- DECODE's bulk path keeps both memories canonical, for a pixel count that FBUF holds (R231). -/
theorem State.convertPayload_memoryOk {s : State} (hn : s.pixelCount ≤ Config.fbufPixels) (h : s.MemoryOk) :
    s.convertPayload.MemoryOk :=
  ⟨h.1, Memory.wf_setPrefix _ hn s.fbuf h.2⟩

/-- What a failing LINK_FETCH leaves keeps both memories canonical. -/
theorem State.loseFetched_memoryOk {s : State} (h : s.MemoryOk) : s.loseFetched.MemoryOk := by
  unfold State.loseFetched
  split
  · exact State.freePbufPrefix_memoryOk _ h
  · exact h

/-- What a cut command leaves keeps both memories canonical. -/
theorem State.cutMemory_memoryOk {s : State} (h : s.MemoryOk) : s.cutMemory.MemoryOk := by
  unfold State.cutMemory
  split
  · split
    · split
      · exact State.freeFbufPrefix_memoryOk _ h
      · exact h
    · exact h
    all_goals exact State.loseFetched_memoryOk h
  · exact h

/-- After reset nothing is listed, which is canonical. -/
theorem State.reset_memoryOk : State.reset.MemoryOk := ⟨rfl, rfl⟩

end Sys2Proof.Machine
end

