-- ==== Sys2Proof/Laws/Cycle.lean ====
section
/-!
SUPPORT. What a cycle can do: the inversion of `cycleWith`, and of the cycles of commands, accesses and reset.
-/

namespace Sys2Proof.Machine

/-- With no command running, GPCL's step changes nothing (10_state.md R21). -/
theorem State.unitStep_idle (env : EnvIn) {s : State} (h : s.status.busy = false) : s.unitStep env = s := by
  simp [State.unitStep, h]

/-- With no command running, no byte is stored. -/
theorem State.strayStore_idle (env : EnvIn) {s : State} (h : s.status.busy = false) : s.strayStore env = none := by
  simp [State.strayStore, h]

/-- A cycle that answers a next state: no stray store, GPCL's step, then the host's transaction. -/
theorem cycleWith_next {host : State → State → State} {s t : State} (h : cycleWith host s = .next t) :
    s.beginCycle.strayStore s.sampled.env = none ∧ t = host s (s.beginCycle.unitStep s.sampled.env) := by
  unfold cycleWith at h
  split at h
  · cases h
  · cases h
    exact ⟨‹_›, rfl⟩

/-- A cycle without a stray store answers a next state. -/
theorem cycleWith_of_noStray {host : State → State → State} {s : State}
    (h : s.beginCycle.strayStore s.sampled.env = none) :
    cycleWith host s = .next (host s (s.beginCycle.unitStep s.sampled.env)) := by
  unfold cycleWith
  rw [h]

/-- A cycle that starts with no command running: only the host's transaction acts. -/
theorem cycleWith_idle {host : State → State → State} {s : State} (h : s.status.busy = false) :
    cycleWith host s = .next (host s s.beginCycle) := by
  have hb : s.beginCycle.status.busy = false := h
  rw [cycleWith_of_noStray (State.strayStore_idle _ hb), State.unitStep_idle _ hb]

/-- A cycle never refuses. -/
theorem cycleWith_not_refused (host : State → State → State) (s : State) (r : Refusal) :
    cycleWith host s ≠ .refused r := by
  unfold cycleWith
  split <;> simp

/-- A command written with no command running has its effect (10_state.md R45). -/
theorem commandCycle_idle (effect : Bool → State → State) {s : State} (h : s.status.busy = false) :
    commandCycle effect s = .next (effect s.sampled.env.linkUp s.beginCycle) := by
  unfold commandCycle
  rw [cycleWith_idle h]
  simp [h]

/-- A command written while one runs is refused and sets REJECTED; the running command takes its step (10_state.md R45). -/
theorem commandCycle_busy (effect : Bool → State → State) {s : State} (h : s.status.busy = true)
    (hs : s.beginCycle.strayStore s.sampled.env = none) :
    commandCycle effect s = .next (s.beginCycle.unitStep s.sampled.env).reject := by
  unfold commandCycle
  rw [cycleWith_of_noStray hs]
  simp [h]

/-- A command's cycle that answers a next state: one of the two cases of 10_state.md R45. -/
theorem commandCycle_next {effect : Bool → State → State} {s t : State} (h : commandCycle effect s = .next t) :
    (s.status.busy = true ∧ t = (s.beginCycle.unitStep s.sampled.env).reject) ∨
    (s.status.busy = false ∧ t = effect s.sampled.env.linkUp s.beginCycle) := by
  cases hb : s.status.busy
  · rw [commandCycle_idle effect hb] at h
    cases h
    exact .inr ⟨rfl, rfl⟩
  · obtain ⟨_, rfl⟩ := cycleWith_next h
    simp [hb]

/-- Another access' cycle that answers a next state. -/
theorem accessCycle_next {s t : State} (h : accessCycle s = .next t) :
    s.beginCycle.strayStore s.sampled.env = none ∧
      t = hostAccess s.sampled.env.linkUp s.sampled.host s (s.beginCycle.unitStep s.sampled.env) :=
  cycleWith_next h

/-- A reset cycle (10_state.md R22). -/
theorem step_reset {s : State} (h : s.sampled.rst = true) : step s = .next (resetCycle s) := by
  simp [step, h]

/-- A cycle that presents an instruction runs it. -/
theorem step_instr {s : State} {i : Instr} (h : s.sampled.rst = false)
    (hd : Sys2Proof.decode s.sampled.host = .ok i) : step s = exec i s := by
  simp [step, h, hd]

/-- A cycle that presents no instruction. -/
theorem step_access {s : State} {n : NotInstr} (h : s.sampled.rst = false)
    (hd : Sys2Proof.decode s.sampled.host = .error n) : step s = accessCycle s := by
  simp [step, h, hd]

/-- Every step's next state is that of a reset cycle, of an instruction or of another access. -/
theorem step_next {s t : State} (h : step s = .next t) :
    (s.sampled.rst = true ∧ t = resetCycle s) ∨
    (s.sampled.rst = false ∧ ∃ i, Sys2Proof.decode s.sampled.host = .ok i ∧ exec i s = .next t) ∨
    (s.sampled.rst = false ∧ ∃ n, Sys2Proof.decode s.sampled.host = .error n ∧ accessCycle s = .next t) := by
  cases hr : s.sampled.rst
  · cases hd : Sys2Proof.decode s.sampled.host with
    | ok i => rw [step_instr hr hd] at h; exact .inr (.inl ⟨rfl, i, rfl, h⟩)
    | error n => rw [step_access hr hd] at h; exact .inr (.inr ⟨rfl, n, rfl, h⟩)
  · rw [step_reset hr] at h
    cases h
    exact .inl ⟨rfl, rfl⟩

/-- The effect of a host read: the windows' addresses may move, and `hrdata` is driven. -/
theorem hostRead_cases (linkUp : Bool) (r : HostReg) (s0 s : State) :
    hostRead linkUp r s0 s = s.drive (readReg linkUp r s0) ∨
    (s0.status.busy = false ∧ r = .pbufData ∧ hostRead linkUp r s0 s = s.advancePbuf.drive (readReg linkUp r s0)) ∨
    (s0.status.busy = false ∧ r = .fbufData ∧ hostRead linkUp r s0 s = s.advanceFbuf.drive (readReg linkUp r s0)) := by
  unfold hostRead
  cases hb : s0.status.busy <;> cases r <;> simp [readEffect]

/-- A running command's operands do not move: a write that is not accepted only sets REJECTED (10_state.md R45). -/
theorem hostWrite_busy {r : HostReg} (data : Word) (s : State) (hw : writable r = true) (hr : r ≠ .ccIn) :
    hostWrite true r data s = s.reject := by
  cases r <;> simp_all [hostWrite, writable, acceptedWhileBusy]

/-- With no command running, every write has its register's effect (10_state.md R45). -/
theorem hostWrite_idle (r : HostReg) (data : Word) (s : State) : hostWrite false r data s = writeReg r data s := by
  simp [hostWrite]

end Sys2Proof.Machine
end

