-- ==== Sys2Proof/Laws/Exec.lean ====
section
/-!
SUPPORT. Each instruction's cycle in terms of the shared cycle, and the outputs of a cycle that starts with no command running.
-/

namespace Sys2Proof.Machine

theorem exec_nop (s : State) : exec .nop s = commandCycle (fun _ t => t) s := rfl
theorem exec_parse (s : State) : exec .parse s = commandCycle (fun _ t => startParse t) s := rfl
theorem exec_decode (s : State) : exec .decode s = commandCycle (fun _ t => startDecode t) s := rfl
theorem exec_linkFetch (s : State) : exec .linkFetch s = commandCycle startLinkFetch s := rfl
theorem exec_rxFlush (s : State) : exec .rxFlush s = commandCycle startRxFlush s := rfl
theorem exec_abort (s : State) :
    exec .abort s =
      cycleWith (fun s0 s1 => if s0.status.busy && s1.status.busy then State.cancel s0 s1 else s1) s := rfl

/-- An ABORT that cancels: the running command's step, then the error completion (44_control_commands.md R252). -/
theorem exec_abort_cancels {s : State} (hb : s.status.busy = true) (hs : s.beginCycle.strayStore s.sampled.env = none)
    (hu : (s.beginCycle.unitStep s.sampled.env).status.busy = true) :
    exec .abort s = .next (State.cancel s (s.beginCycle.unitStep s.sampled.env)) := by
  rw [exec_abort, cycleWith_of_noStray hs]
  simp [hb, hu]

theorem exec_clear (s : State) : exec .clear s = commandCycle (fun _ t => t.acknowledge) s := rfl
theorem exec_conv (data : Word) (s : State) : exec (.conv data) s = cycleWith (fun _ s1 => s1.setCcIn data) s := rfl

/-- A reserved opcode's cycle. -/
theorem exec_reserved {i : Instr} {op : BitVec 4} (h : opcodeOf i = some op) (h7 : 7 ≤ op.toNat) (s : State) :
    exec i s = commandCycle (fun _ t => illegalCommand op t) s := by
  cases i <;> simp only [opcodeOf, Option.some.injEq, reduceCtorEq] at h <;> subst h <;>
    first | exact absurd h7 (by decide) | rfl

/-- With no command running at its start, a cycle offers and consumes nothing, and `hrdata` is not driven before the host's
access (42_link_framer.md R182). -/
theorem State.ports_idle (linkUp : Bool) {s : State} (h : s.status.busy = false) :
    s.ports linkUp = { hrdata := none, txValid := false, txData := 0, rxReady := false } := by
  simp [State.ports, h]

end Sys2Proof.Machine
end

