-- ==== Sys2Proof/Laws/Engine.lean ====
section
/-!
SUPPORT. A cycle of a running command with an idle host, in terms of its unit: HPU, FDU and LFE (10_state.md R21). And what a cut
command leaves at each address (U2, U3).
-/

namespace Sys2Proof.Machine

/-- A cycle without reset, host transaction and stray store is GPCL's step alone. -/
theorem step_idleHost {s : State} (hr : s.sampled.rst = false) (hh : s.sampled.host = .idle)
    (hs : s.beginCycle.strayStore s.sampled.env = none) : step s = .next (s.beginCycle.unitStep s.sampled.env) := by
  rw [step_access hr (n := .noTransaction) (by rw [hh]; rfl)]
  unfold accessCycle
  rw [cycleWith_of_noStray hs, hh]
  rfl

/-- Only READ stores bytes. -/
theorem State.strayStore_of_ne_read {s : State} (env : EnvIn) (h : s.status.lfState ≠ .read) :
    s.strayStore env = none := by
  simp [State.strayStore, h]

/-- A store within PBUF is no stray store. -/
theorem State.strayStore_of_lt {s : State} (env : EnvIn) (h : s.storeAddr < Config.pbufBytes) :
    s.strayStore env = none := by
  simp only [State.strayStore, decide_eq_false (Nat.not_le.mpr h), Bool.and_false, Bool.false_eq_true, if_false]

/-- The last cycle of a PARSE commits it (44_control_commands.md R251). -/
theorem step_parseEnding {s : State} (h : ParseEnding s) : step s = .next s.beginCycle.parseCommit := by
  obtain ⟨hr, hh, hb, hi, hc, hl⟩ := h
  rw [step_idleHost hr hh (State.strayStore_of_ne_read _ (by rw [State.beginCycle_status, hi]; decide))]
  simp [State.unitStep, hb, hi, hc, State.parseStep, hl]

/-- The last cycle of a DECODE commits it (R251). -/
theorem step_decodeEnding {s : State} (h : DecodeEnding s) : step s = .next s.beginCycle.decodeCommit := by
  obtain ⟨hr, hh, hb, hi, hc, hl⟩ := h
  rw [step_idleHost hr hh (State.strayStore_of_ne_read _ (by rw [State.beginCycle_status, hi]; decide))]
  simp [State.unitStep, hb, hi, hc, State.decodeStep, hl]

/-- A cycle of LINK_FETCH with the link up: the state's own step, then the pulse (42_link_framer.md R186 to R199). -/
theorem step_engine {s : State} {st : LfState} (h : EngineIn st s) (hf : isFetchState st = true)
    (hs : s.beginCycle.strayStore s.sampled.env = none) :
    step s = .next ((s.beginCycle.fetchStep s.sampled.env).countElapsed s.sampled.env.tickMs st) := by
  obtain ⟨hr, hh, hb, hi, hl⟩ := h
  rw [step_idleHost hr hh hs]
  cases st <;> simp [isFetchState] at hf <;> simp [State.unitStep, hb, hi, State.linkStep, hl]

/-- A state that sends a control word is one of LINK_FETCH's, and not READ. -/
theorem controlWord_state {st : LfState} {w : List Byte} (h : controlWord st = some w) :
    isFetchState st = true ∧ st ≠ .read := by
  cases st <;> simp_all [controlWord, isFetchState]

@[simp] theorem State.countElapsed_status (b : Bool) (st : LfState) (s : State) :
    (s.countElapsed b st).status = s.status := by unfold State.countElapsed; split <;> rfl
@[simp] theorem State.countElapsed_int (b : Bool) (st : LfState) (s : State) :
    (s.countElapsed b st).int = s.int := by unfold State.countElapsed; split <;> rfl
@[simp] theorem State.countElapsed_pbuf (b : Bool) (st : LfState) (s : State) :
    (s.countElapsed b st).pbuf = s.pbuf := by unfold State.countElapsed; split <;> rfl
@[simp] theorem State.countElapsed_fbuf (b : Bool) (st : LfState) (s : State) :
    (s.countElapsed b st).fbuf = s.fbuf := by unfold State.countElapsed; split <;> rfl
@[simp] theorem State.countElapsed_rxQueue (b : Bool) (st : LfState) (s : State) :
    (s.countElapsed b st).rxQueue = s.rxQueue := by unfold State.countElapsed; split <;> rfl
@[simp] theorem State.countElapsed_txSent (b : Bool) (st : LfState) (s : State) :
    (s.countElapsed b st).txSent = s.txSent := by unfold State.countElapsed; split <;> rfl
@[simp] theorem State.countElapsed_out (b : Bool) (st : LfState) (s : State) :
    (s.countElapsed b st).out = s.out := by unfold State.countElapsed; split <;> rfl
@[simp] theorem State.countElapsed_inputs (b : Bool) (st : LfState) (s : State) :
    (s.countElapsed b st).inputs = s.inputs := by unfold State.countElapsed; split <;> rfl
@[simp] theorem State.countElapsed_cycle (b : Bool) (st : LfState) (s : State) :
    (s.countElapsed b st).cycle = s.cycle := by unfold State.countElapsed; split <;> rfl
@[simp] theorem State.countElapsed_draws (b : Bool) (st : LfState) (s : State) :
    (s.countElapsed b st).draws = s.draws := by unfold State.countElapsed; split <;> rfl

/-- ELAPSED_MS counts a pulse in a counting state if the command goes on (R193). -/
@[simp] theorem State.countElapsed_regs (b : Bool) (st : LfState) (s : State) :
    (s.countElapsed b st).regs =
      if b && countsElapsed st && s.status.busy then { s.regs with elapsedMs := satInc s.regs.elapsedMs } else s.regs := by
  unfold State.countElapsed
  split <;> rfl

/-- What a failing LINK_FETCH leaves at each PBUF address (U2). -/
theorem State.pbufByte_loseFetched (s : State) (a : Nat) :
    s.loseFetched.pbufByte a =
      if s.int.stored = true ∧ a < min s.payloadBytes Config.pbufBytes then Config.freePbuf s.draws a
      else s.pbufByte a := by
  unfold State.loseFetched
  by_cases h : s.int.stored = true
  · rw [if_pos h, State.pbufByte_freePbufPrefix]
    simp only [h, true_and]
  · rw [if_neg h, if_neg (fun c => h c.1)]

/-- What a cut command does to the memories: nothing, or U3's draw for a DECODE, or what a failing LINK_FETCH leaves. -/
theorem State.cutMemory_cases (s : State) :
    s.cutMemory = s ∨
    (s.status.busy = true ∧ s.status.lfState = .idle ∧ s.status.lastCmd = 2 ∧ s.int.res = some .success ∧
      s.cutMemory = s.freeFbufPrefix s.pixelCount) ∨
    (s.status.busy = true ∧ isFetchState s.status.lfState = true ∧ s.cutMemory = s.loseFetched) := by
  unfold State.cutMemory
  cases hb : s.status.busy
  · exact .inl rfl
  · cases hl : s.status.lfState
    case idle =>
      by_cases hc : s.status.lastCmd = 2 ∧ s.int.res = some .success
      · exact .inr (.inl ⟨rfl, rfl, hc.1, hc.2, if_pos hc⟩)
      · exact .inl (if_neg hc)
    case flush => exact .inl rfl
    all_goals exact .inr (.inr ⟨rfl, rfl, rfl⟩)

end Sys2Proof.Machine
end

