-- ==== Sys2Proof/Laws/Completion.lean ====
section
/-!
SUPPORT. Every completion is seen by the one host (60_exceptions.md R270, R280): a running command's cycle either runs on or leaves
its completion in STATUS.
-/

namespace Sys2Proof.Machine

/-- A completion is one (60_exceptions.md R273, R274). -/
theorem State.runsOrDone_complete (e : Option ErrCode) (s : State) : (s.complete e).RunsOrDone :=
  .inr ⟨rfl, rfl, rfl, rfl⟩

theorem State.runsOrDone_parseStep {s : State} (h : s.status.busy = true) : s.parseStep.RunsOrDone := by
  unfold State.parseStep State.parseCommit
  dsimp only
  repeat' split
  all_goals first | exact State.runsOrDone_complete _ _ | exact .inl h

theorem State.runsOrDone_decodeStep {s : State} (h : s.status.busy = true) : s.decodeStep.RunsOrDone := by
  unfold State.decodeStep State.decodeCommit
  repeat' split
  all_goals first | exact State.runsOrDone_complete _ _ | exact .inl h

theorem State.runsOrDone_flushStep (env : EnvIn) {s : State} (h : s.status.busy = true) : (s.flushStep env).RunsOrDone := by
  unfold State.flushStep
  repeat' split
  all_goals first | exact State.runsOrDone_complete _ _ | exact .inl h

theorem runsOrDone_sendWord {w : List Byte} {b : Bool} {last stalled : State → State} {s : State}
    (hl : ∀ t : State, t.status.busy = true → (last t).RunsOrDone) (hs : (stalled s).RunsOrDone)
    (h : s.status.busy = true) : (sendWord w b last stalled s).RunsOrDone := by
  unfold sendWord
  dsimp only
  repeat' split
  · exact hl _ h
  · exact .inl h
  · exact hs

theorem State.runsOrDone_stallBeforeLast {s : State} (h : s.status.busy = true) : s.stallBeforeLast.RunsOrDone := by
  unfold State.stallBeforeLast
  split
  · exact State.runsOrDone_complete _ _
  · exact .inl h

theorem State.runsOrDone_fetchStep (env : EnvIn) {s : State} (h : s.status.busy = true) :
    (s.fetchStep env).RunsOrDone := by
  unfold State.fetchStep
  split
  · exact runsOrDone_sendWord (fun _ ht => .inl ht) (.inl h) h
  · unfold State.pollStep; split <;> first | exact State.runsOrDone_complete _ _ | exact .inl h
  · unfold State.announceStep; repeat' split
    all_goals first | exact State.runsOrDone_complete _ _ | exact .inl h
  · exact runsOrDone_sendWord (fun _ ht => by split <;> exact .inl ht) (State.runsOrDone_stallBeforeLast h) h
  · unfold State.checkStep; split <;> first | exact State.runsOrDone_complete _ _ | exact .inl h
  · refine .inl ?_
    have hb : s.takeByte.status.busy = true := by unfold State.takeByte; split <;> simp [h]
    unfold State.readStep State.fullAttempt State.windowTick
    dsimp only
    repeat' split
    all_goals exact hb
  · exact runsOrDone_sendWord (fun _ ht => .inl ht) (State.runsOrDone_stallBeforeLast h) h
  · exact runsOrDone_sendWord (fun _ _ => State.runsOrDone_complete _ _) (.inl h) h
  · exact .inl h
  · exact .inl h

theorem State.runsOrDone_linkStep (env : EnvIn) {s : State} (h : s.status.busy = true) : (s.linkStep env).RunsOrDone := by
  unfold State.linkStep
  split
  · have := State.runsOrDone_fetchStep env h
    simpa only [State.RunsOrDone, State.countElapsed_status, State.countElapsed_int] using this
  · exact State.runsOrDone_complete _ _

/-- GPCL's step of a running command: it runs on, or its completion stands in STATUS. -/
theorem State.runsOrDone_unitStep (env : EnvIn) {s : State} (h : s.status.busy = true) : (s.unitStep env).RunsOrDone := by
  unfold State.unitStep
  rw [if_pos h]
  split
  · split
    · exact State.runsOrDone_parseStep h
    · split
      · exact State.runsOrDone_decodeStep h
      · exact .inl h
  · exact State.runsOrDone_flushStep env h
  all_goals exact State.runsOrDone_linkStep env h

/-- A host access leaves the completion of a running command's cycle where it is. -/
theorem runsOrDone_hostAccess (l : Bool) (x : HostTxn) {s0 s : State} (hb : s0.status.busy = true) (h : s.RunsOrDone) :
    (hostAccess l x s0 s).RunsOrDone := by
  have key : ∀ t : State, (t.status.busy = s.status.busy ∧ t.status.done = s.status.done ∧ t.status.err = s.status.err ∧
      t.status.errcode = s.status.errcode ∧ t.status.lfState = s.status.lfState ∧ t.int = s.int) → t.RunsOrDone := by
    rintro t ⟨a, b, c, d, e, f⟩
    simpa only [State.RunsOrDone, a, b, c, d, e, f] using h
  apply key
  unfold hostAccess
  split
  · simp
  · split
    · unfold hostRead readEffect; split <;> simp [hb]
    · simp
  · split
    · unfold hostWrite; split
      · simp
      · rename_i r _ _; unfold writeReg; split <;> simp [State.pbufDataWrite]
    · simp

/-- A cycle that starts with a command running and is no reset cycle: the command runs on, or STATUS holds its completion. -/
theorem runsOrDone_step {s t : State} (hr : s.sampled.rst = false) (hb : s.status.busy = true) (h : step s = .next t) :
    t.RunsOrDone := by
  have hu : (s.beginCycle.unitStep s.sampled.env).RunsOrDone := State.runsOrDone_unitStep _ (by simpa using hb)
  obtain ⟨h', _⟩ | ⟨_, i, _, he⟩ | ⟨_, n, _, he⟩ := step_next h
  · rw [hr] at h'; cases h'
  · have hc : ∀ eff, commandCycle eff s = .next t → t.RunsOrDone := by
      intro eff hc
      obtain ⟨_, rfl⟩ | ⟨hf, _⟩ := commandCycle_next hc
      · exact hu
      · rw [hb] at hf; cases hf
    cases i
    case abort =>
      rw [exec_abort] at he
      obtain ⟨_, rfl⟩ := cycleWith_next he
      split
      · exact State.runsOrDone_complete _ _
      · exact hu
    case conv d =>
      rw [exec_conv] at he
      obtain ⟨_, rfl⟩ := cycleWith_next he
      exact hu
    case nop => exact hc (fun _ t => t) he
    case parse => exact hc (fun _ t => startParse t) he
    case decode => exact hc (fun _ t => startDecode t) he
    case linkFetch => exact hc startLinkFetch he
    case rxFlush => exact hc startRxFlush he
    case clear => exact hc (fun _ t => t.acknowledge) he
    all_goals exact hc (fun _ t => illegalCommand _ t) he
  · obtain ⟨_, rfl⟩ := accessCycle_next he
    exact runsOrDone_hostAccess _ _ hb hu

/-- R280: every completion is seen by the one host. A running command that ends in a cycle without reset leaves its completion in
STATUS, and that is what a host read of STATUS returns from the next cycle on. -/
theorem step_completion_seen {s t : State} (hr : s.sampled.rst = false) (hb : s.status.busy = true) (h : step s = .next t)
    (ht : t.status.busy = false) :
    t.status.done = true ∧ t.status.err = t.status.errcode.isSome ∧ t.status.lfState = .idle ∧ t.int = Internal.zero ∧
      ∀ linkUp, readReg linkUp .status t = statusWord linkUp t.status := by
  obtain hd | ⟨h1, h2, h3, h4⟩ := runsOrDone_step hr hb h
  · rw [ht] at hd; cases hd
  · exact ⟨h1, h2, h3, h4, fun _ => rfl⟩

end Sys2Proof.Machine
end

