-- ==== Sys2Proof/Tests/Slice0.lean ====
section
/-!
SUPPORT. Tests. Expected values are those of spec/95_test_vectors.md, named in each comment, or are worked out by hand from the rule
named. After them, for each statement with hypotheses, a state and operands that meet them (`witness_<statement>`), one for each
clause.
-/

namespace Sys2Proof.Tests

open Sys2Proof Sys2Proof.Machine

/-! ### Helpers -/

/-- The link up, TX accepting, no pulse, no new byte. -/
def up : EnvIn := { txReady := true, rx := .arrive [], linkUp := true, tickMs := false }

/-- The link down. -/
def down : EnvIn := { txReady := true, rx := .arrive [], linkUp := false, tickMs := false }

/-- The link up with TX stalled and a pulse. -/
def stalled : EnvIn := { txReady := false, rx := .arrive [], linkUp := true, tickMs := true }

/-- `s` with the inputs of its next cycle. -/
def cyc (h : HostTxn) (e : EnvIn) (s : State) : State := { s with inputs := [{ rst := false, host := h, env := e }] }

/-- `s` with a reset cycle next. -/
def resetNext (s : State) : State := { s with inputs := [{ rst := true, host := .idle, env := up }] }

/-- What `f` gives of the next state, if there is one. -/
def after {α : Type} (o : Host.Outcome State Fault Refusal) (f : State → α) : Option α :=
  match o with
  | .next t => some (f t)
  | .fault _ => none
  | .refused _ => none

/-- STATUS as the host reads it with `link_up = linkUp`. -/
def statusOf (linkUp : Bool) (s : State) : Nat := (readReg linkUp .status s).toNat

/-- After reset, with a small geometry (2 x 1, 2 packets of 2 bytes) and a read window of 2 pulses. -/
def small : State :=
  { State.reset with
    regs := { Regs.reset with width := 2, height := 1, packetCount := 2, packetSize := 2, readWindowMs := 2, deadlineMs := 1 } }

/-- A LINK_FETCH of `small` in state `st`. -/
def fetching (st : LfState) : State :=
  { small with status := { Status.reset with busy := true, lastCmd := 3, lfState := st } }

/-- An RX_FLUSH. -/
def flushing : State := { small with status := { Status.reset with busy := true, lastCmd := 4, lfState := .flush } }

/-- PBUF with the bytes `bs` from address 0 on. -/
def withBytes (bs : List Byte) (s : State) : State :=
  { s with pbuf := (List.range bs.length).zip bs }

/-- A version-1 header: width 240, height 240, frame id 7, 40 ms, status byte 0x01 (L1.3). -/
def header : List Byte :=
  [0x00, 0x01, 0x00, 0x00, 0x00, 0xF0, 0x00, 0x00, 0x00, 0xF0, 0x00, 0x00, 0x00, 0x07, 0x00, 0x00, 0x00, 0x28, 0x01,
    0, 0, 0, 0, 0, 0, 0, 0, 0, 0, 0, 0, 0]

/-- A PARSE in its last cycle, over the source bytes `bs`, with CURSOR 0 and SRC_LEN `len`. -/
def parsing (bs : List Byte) (len : Word) : State :=
  withBytes bs
    { State.reset with
      status := { Status.reset with busy := true, lastCmd := 1 }
      regs := { Regs.reset with srcLen := len }
      int := { Internal.zero with lat := 1 }
      inputs := [{ rst := false, host := .idle, env := down }] }

/-- A DECODE in its last cycle, of a 2 x 1 frame at PBUF 0 (L1.5). -/
def decoding (payloadLen srcLen : Word) : State :=
  withBytes [0xF8, 0x00, 0x07, 0xE0]
    { State.reset with
      status := { Status.reset with busy := true, lastCmd := 2 }
      regs := { Regs.reset with width := 2, height := 1, payloadLen := payloadLen, srcLen := srcLen }
      int := { Internal.zero with lat := 1 }
      inputs := [{ rst := false, host := .idle, env := down }] }

/-! ### Well-formedness: each check refuses an ill-formed term -/

theorem test_wf_conv_high_bits : Instr.wellFormed (.conv 0x1234F800) = false := by decide
theorem test_wf_conv : Instr.wellFormed (.conv 0xF800) = true := by decide
theorem test_wf_cmd_high_bits : HostTxn.wellFormed (.write 0x00 0xFFFFFFF1) = false := by decide
theorem test_wf_unaligned : HostTxn.wellFormed (.write 0x0D 0x00000001) = false := by decide
theorem test_wf_ccIn_high_bits : HostTxn.wellFormed (.write 0x0C 0x1234F800) = false := by decide
theorem test_wf_other_register : HostTxn.wellFormed (.write 0x20 0x00000001) = false := by decide
theorem test_wf_no_write : HostTxn.wellFormed (.read 0x00) = false ∧ HostTxn.wellFormed .idle = false := by decide

/-! ### Decoding, each word written out from 30_encoding.md R100, R101, R103 -/

theorem test_decode_nop : Sys2Proof.decode (.write 0x00 0x00000000) = .ok .nop := rfl
theorem test_decode_parse : Sys2Proof.decode (.write 0x00 0x00000001) = .ok .parse := rfl
theorem test_decode_decode : Sys2Proof.decode (.write 0x00 0x00000002) = .ok .decode := rfl
theorem test_decode_linkFetch : Sys2Proof.decode (.write 0x00 0x00000003) = .ok .linkFetch := rfl
theorem test_decode_rxFlush : Sys2Proof.decode (.write 0x00 0x00000004) = .ok .rxFlush := rfl
theorem test_decode_abort : Sys2Proof.decode (.write 0x00 0x00000005) = .ok .abort := rfl
theorem test_decode_clear : Sys2Proof.decode (.write 0x00 0x00000006) = .ok .clear := rfl
theorem test_decode_rsv7 : Sys2Proof.decode (.write 0x00 0x00000007) = .ok .rsv7 := rfl
theorem test_decode_rsv8 : Sys2Proof.decode (.write 0x00 0x00000008) = .ok .rsv8 := rfl
theorem test_decode_rsv9 : Sys2Proof.decode (.write 0x00 0x00000009) = .ok .rsv9 := rfl
theorem test_decode_rsvA : Sys2Proof.decode (.write 0x00 0x0000000A) = .ok .rsvA := rfl
theorem test_decode_rsvB : Sys2Proof.decode (.write 0x00 0x0000000B) = .ok .rsvB := rfl
theorem test_decode_rsvC : Sys2Proof.decode (.write 0x00 0x0000000C) = .ok .rsvC := rfl
theorem test_decode_rsvD : Sys2Proof.decode (.write 0x00 0x0000000D) = .ok .rsvD := rfl
theorem test_decode_rsvE : Sys2Proof.decode (.write 0x00 0x0000000E) = .ok .rsvE := rfl
theorem test_decode_rsvF : Sys2Proof.decode (.write 0x00 0x0000000F) = .ok .rsvF := rfl
theorem test_decode_conv : Sys2Proof.decode (.write 0x0C 0x0000F800) = .ok (.conv 0xF800) := rfl

/-- K5: bits [31:4] of a command word are ignored. -/
theorem test_decode_ignores_high_bits : Sys2Proof.decode (.write 0x00 0xFFFFFFF1) = .ok .parse := rfl

/-- An access that is no instruction is refused by name. -/
theorem test_decode_rejects_by_name :
    Sys2Proof.decode (.read 0x04) = .error (.registerRead .status) ∧
    Sys2Proof.decode (.write 0x20 5) = .error (.registerWrite .width) ∧
    Sys2Proof.decode (.write 0x68 1) = .error .unmapped ∧ Sys2Proof.decode .idle = .error .noTransaction :=
  ⟨rfl, rfl, rfl, rfl⟩

theorem test_table_words :
    decodeTableWord 32 0x0C = some .rsvC ∧ decodeTableWord 8 0x0C = some (.conv 0) ∧ decodeTableWord 8 0x05 = some .abort := by
  decide

/-- A placed table word is the instruction that the next step runs. -/
theorem test_withFetchWord :
    (∃ t, step (State.reset.withFetchWord 32 0x07) = .next t ∧ t.status.lastCmd = 7) ∧
    (∃ t, step (State.reset.withFetchWord 32 0x01) = .next t ∧ t.status.busy = true) :=
  ⟨⟨_, rfl, rfl⟩, ⟨_, rfl, rfl⟩⟩

/-! ### One step of each instruction -/

/-- L2.1: 0x8410 gives 0x00838183. -/
theorem test_conv_midscale :
    after (exec (.conv 0x8410) (cyc (.write 0x0C 0x8410) up State.reset)) (fun t => (readReg true .ccOut t).toNat) =
      some 0x00838183 := by decide

/-- P1: bits [31:16] of the written word are ignored. -/
theorem test_conv_ignores_high_bits :
    after (step (cyc (.write 0x0C 0x1234F800) up State.reset))
      (fun t => ((readReg true .ccOut t).toNat, (readReg true .ccIn t).toNat)) = some (0x00FF0000, 0xF800) := by decide

/-- K1. -/
theorem test_nop_idle : after (exec .nop (cyc (.write 0x00 0) down State.reset)) (statusOf false) = some 0 := by decide

/-- K2: NOP while a LINK_FETCH is in TX_READY: BUSY, REJECTED, LAST_CMD 3, LF_STATE 1, LINK_UP. -/
theorem test_nop_busy :
    after (exec .nop (cyc (.write 0x00 0) up (fetching .txReady))) (statusOf true) = some 0x00113081 := by decide

/-- L1.3: STATUS, CURSOR and HDR_FLAGS after the parse of the example header. -/
theorem test_parse_success :
    after (step (parsing header 32))
      (fun t => (statusOf false t, t.regs.cursor.toNat, (readReg false .hdrFlags t).toNat, t.regs.frameTimeMs.toNat)) =
      some (0x0000100A, 32, 0x00000101, 40) := by decide

/-- L1.4: a version tag of 2. -/
theorem test_parse_version :
    after (step (parsing [0x00, 0x02] 2)) (fun t => (statusOf false t, t.regs.cursor.toNat, t.regs.hdrVersion.toNat)) =
      some (0x00001106, 2, 2) := by decide

/-- L1.5, vector a. -/
theorem test_decode_success :
    after (step (decoding 4 4)) (fun t => (statusOf false t, (t.fbufPixel 0).toNat, (t.fbufPixel 1).toNat)) =
      some (0x00002022, 0xFF0000, 0x00FF00) := by decide

/-- L1.5, vector b: a payload of 3 bytes. -/
theorem test_decode_size_mismatch :
    after (step (decoding 3 4)) (fun t => (statusOf false t, t.fbuf.length)) = some (0x00002406, 0) := by decide

/-- S9. -/
theorem test_linkFetch_starts :
    after (exec .linkFetch
        (cyc (.write 0x00 3) up { State.reset with regs := { Regs.reset with readWindowMs := 10 } }))
      (fun t => (statusOf true t, t.regs.packetSize.toNat)) = some (0x00113001, 7200) := by decide

/-- S3: the link is checked first. -/
theorem test_linkFetch_link_down :
    after (exec .linkFetch (cyc (.write 0x00 3) down { State.reset with regs := { Regs.reset with width := 0 } }))
      (statusOf false) = some 0x00003706 := by decide

/-- F2, first half: the start. BUSY, LAST_CMD 4, LF_STATE 9, LINK_UP. -/
theorem test_rxFlush_starts :
    after (exec .rxFlush (cyc (.write 0x00 4) up State.reset)) (statusOf true) = some 0x00194001 := by decide

/-- F3. -/
theorem test_rxFlush_link_down :
    after (exec .rxFlush (cyc (.write 0x00 4) down State.reset)) (statusOf false) = some 0x00004706 := by decide

/-- E14, in a cycle with a pulse: the command completes in it, so ELAPSED_MS does not count it (R193, R252: log 20). -/
theorem test_abort_running :
    after (exec .abort (cyc (.write 0x00 5) { up with tickMs := true } (fetching .read)))
      (fun t => (statusOf true t, t.regs.elapsedMs.toNat)) = some (0x00103906, 0) := by decide

/-- K9. -/
theorem test_abort_idle :
    after (exec .abort (cyc (.write 0x00 5) down State.reset)) (statusOf false) = some 0 := by decide

/-- K7. -/
theorem test_clear_keeps_valid_flags :
    after (exec .clear (cyc (.write 0x00 6) down
        { State.reset with
          status := { Status.reset with done := true, hdrValid := true, pixValid := true, rejected := true } }))
      (statusOf false) = some 0x00000028 := by decide

/-- K6. -/
theorem test_clear_keeps_lastCmd :
    after (exec .clear (cyc (.write 0x00 6) down
        { State.reset with
          status := { Status.reset with done := true, err := true, errcode := some .illegalCommand, lastCmd := 15 } }))
      (statusOf false) = some 0x0000F000 := by decide

/-- K4. -/
theorem test_rsv7 : after (exec .rsv7 (cyc (.write 0x00 0x7) down State.reset)) (statusOf false) = some 0x00007A06 := by
  decide
theorem test_rsv8 : after (exec .rsv8 (cyc (.write 0x00 0x8) down State.reset)) (statusOf false) = some 0x00008A06 := by
  decide
theorem test_rsv9 : after (exec .rsv9 (cyc (.write 0x00 0x9) down State.reset)) (statusOf false) = some 0x00009A06 := by
  decide
theorem test_rsvA : after (exec .rsvA (cyc (.write 0x00 0xA) down State.reset)) (statusOf false) = some 0x0000AA06 := by
  decide
theorem test_rsvB : after (exec .rsvB (cyc (.write 0x00 0xB) down State.reset)) (statusOf false) = some 0x0000BA06 := by
  decide
theorem test_rsvC : after (exec .rsvC (cyc (.write 0x00 0xC) down State.reset)) (statusOf false) = some 0x0000CA06 := by
  decide
theorem test_rsvD : after (exec .rsvD (cyc (.write 0x00 0xD) down State.reset)) (statusOf false) = some 0x0000DA06 := by
  decide
theorem test_rsvE : after (exec .rsvE (cyc (.write 0x00 0xE) down State.reset)) (statusOf false) = some 0x0000EA06 := by
  decide
/-- K3. -/
theorem test_rsvF : after (exec .rsvF (cyc (.write 0x00 0xF) down State.reset)) (statusOf false) = some 0x0000FA06 := by
  decide

/-! ### Accesses, the engine and reset -/

/-- L2.3: PBUF_ADDR 0x1FFFF wraps to 0. -/
theorem test_pbuf_window_wraps :
    after (step (cyc (.write 0x5C 0x123456AB) up { State.reset with regs := { Regs.reset with pbufAddr := 0x1FFFF } }))
      (fun t => ((t.pbufByte 0x1FFFF).toNat, t.regs.pbufAddr.toNat)) = some (0xAB, 0) := by decide

/-- E7, cycle 10: an expired deadline in ANNOUNCE with no byte presented. -/
theorem test_announce_timeout :
    after (step (cyc .idle up
        { fetching .announce with regs := { (fetching .announce).regs with deadlineMs := 0, elapsedMs := 1 } }))
      (fun t => (statusOf true t, t.regs.elapsedMs.toNat)) = some (0x00103606, 1) := by decide

/-- E12: the byte of the last pulse's cycle completes the packet: full, not short. -/
theorem test_read_full_before_short :
    after (step (cyc .idle { up with rx := .arrive [0x2A], tickMs := true }
        { fetching .read with
          regs := { (fetching .read).regs with readWindowMs := 1 }
          int := { Internal.zero with rdn := 1 } }))
      (fun t => (statusOf true t, t.regs.pktReceived.toNat, (t.pbufByte 1).toNat)) = some (0x00143001, 1, 0x2A) := by
  decide

/-- L2.9: a reset during a LINK_FETCH. -/
theorem test_reset_during_fetch :
    after (step (resetNext (fetching .txReady))) (fun t => (statusOf false t, t.out.txValid, t.out.rxReady)) =
      some (0, false, false) := by decide

/-! ### Witnesses: decoding and color -/

theorem witness_StepRunsDecodedInstruction :
    (cyc (.write 0x00 1) up State.reset).sampled.rst = false ∧
      Sys2Proof.decode (cyc (.write 0x00 1) up State.reset).sampled.host = .ok .parse := ⟨rfl, rfl⟩

theorem witness_DecodeEncodeAgree :
    Sys2Proof.decode (.write 0x0D 0x1234F800) = .ok (.conv 0xF800) ∧ Instr.wellFormed (.conv 0xFFFF) = true :=
  ⟨rfl, by decide⟩

theorem witness_ConvSetsCcOut : State.reset.status.busy = false := rfl

theorem witness_ConvWhileBusy :
    let s := cyc (.write 0x0C 0x1F) up (fetching .txReady)
    s.status.busy = true ∧ s.beginCycle.strayStore s.sampled.env = none := ⟨rfl, rfl⟩

theorem witness_ColorPathInfluencesNothing : ∃ t, step (cyc (.read 0x10) up State.reset) = .next t := ⟨_, rfl⟩

/-! ### Witnesses: control commands -/

theorem witness_NopChangesNothing_idle : State.reset.status.busy = false := rfl

theorem witness_NopChangesNothing_busy :
    let s := cyc (.write 0x00 0) up (fetching .txReady)
    s.status.busy = true ∧ s.beginCycle.strayStore s.sampled.env = none := ⟨rfl, rfl⟩

theorem witness_ClearAcknowledges_idle : State.reset.status.busy = false := rfl

theorem witness_ClearAcknowledges_busy :
    let s := cyc (.write 0x00 6) up flushing
    s.status.busy = true ∧ s.beginCycle.strayStore s.sampled.env = none := ⟨rfl, rfl⟩

theorem witness_ReservedOpcodesAreIllegal_idle :
    opcodeOf .rsv7 = some 7 ∧ 7 ≤ (7 : BitVec 4).toNat ∧ (0xFFFFFFF7 : Word).extractLsb' 0 4 = 7 ∧
      State.reset.status.busy = false := by decide

theorem witness_ReservedOpcodesAreIllegal_busy :
    let s := cyc (.write 0x00 15) up (fetching .poll)
    opcodeOf .rsvF = some 15 ∧ 7 ≤ (15 : BitVec 4).toNat ∧ s.status.busy = true ∧
      s.beginCycle.strayStore s.sampled.env = none := ⟨rfl, by decide, rfl, rfl⟩

theorem witness_AbortLeavesCompletedAlone_idle : State.reset.status.busy = false := rfl

theorem witness_AbortLeavesCompletedAlone_completing :
    let s := cyc (.write 0x00 5) up flushing
    s.status.busy = true ∧ s.beginCycle.strayStore s.sampled.env = none ∧
      (s.beginCycle.unitStep s.sampled.env).status.busy = false := ⟨rfl, rfl, rfl⟩

theorem witness_AbortCancelsRunning_parse :
    let s := cyc (.write 0x00 5) up { parsing header 32 with int := { Internal.zero with lat := 2 } }
    let u := s.beginCycle.unitStep s.sampled.env
    s.status.busy = true ∧ s.beginCycle.strayStore s.sampled.env = none ∧ u.status.busy = true ∧
      u.status.lfState = .idle ∧ u.status.lastCmd = 1 := ⟨rfl, rfl, rfl, rfl, rfl⟩

theorem witness_AbortCancelsRunning_decode :
    let s := cyc (.write 0x00 5) up
      { decoding 3 4 with int := { Internal.zero with lat := 2, res := some (.failure .payloadSizeMismatch) } }
    let u := s.beginCycle.unitStep s.sampled.env
    s.status.busy = true ∧ s.beginCycle.strayStore s.sampled.env = none ∧ u.status.busy = true ∧
      u.status.lfState = .idle ∧ u.status.lastCmd = 2 ∧ u.pixelCount ≤ 2 ∧ u.int.res ≠ some .success :=
  ⟨rfl, rfl, rfl, rfl, rfl, by decide, by decide⟩

theorem witness_AbortCancelsRunning_flush :
    let s := cyc (.write 0x00 5) up { flushing with rxQueue := [1, 2] }
    let u := s.beginCycle.unitStep s.sampled.env
    s.status.busy = true ∧ s.beginCycle.strayStore s.sampled.env = none ∧ u.status.busy = true ∧
      u.status.lfState = .flush := ⟨rfl, rfl, rfl, rfl⟩

/-- In a cycle with a pulse. -/
theorem witness_AbortCancelsRunning_fetch :
    let s := cyc (.write 0x00 5) { up with tickMs := true } (fetching .read)
    let u := s.beginCycle.unitStep s.sampled.env
    s.status.busy = true ∧ s.beginCycle.strayStore s.sampled.env = none ∧ u.status.busy = true ∧
      isFetchState u.status.lfState = true ∧ u.payloadBytes ≤ 4 := ⟨rfl, rfl, rfl, rfl, by decide⟩

/-! ### Witnesses: PARSE -/

theorem witness_ParseStarts : State.reset.status.busy = false := rfl

/-- The shortest source that PARSE accepts. -/
theorem witness_ParseSuccess :
    let s := parsing header 32
    ParseEnding s ∧ s.regs.cursor.toNat = 0 ∧ s.regs.srcLen.toNat = 32 ∧ 32 ≤ Config.pbufBytes ∧ 0 + 32 ≤ 32 ∧
      s.pbufByte 0 = 0 ∧ s.pbufByte 1 = 1 ∧ s.memRead4 2 ≠ 0 ∧ s.memRead4 6 ≠ 0 :=
  ⟨⟨rfl, rfl, rfl, rfl, rfl, rfl⟩, by decide, by decide, by decide, by decide, by decide, by decide, by decide, by decide⟩

theorem witness_ParseErrors_config :
    ParseEnding (parsing header 0x00020001) ∧ Config.pbufBytes < (parsing header 0x00020001).regs.srcLen.toNat :=
  ⟨⟨rfl, rfl, rfl, rfl, rfl, rfl⟩, by decide⟩

theorem witness_ParseErrors_no_tag :
    ParseEnding (parsing [0x00] 1) ∧ (parsing [0x00] 1).regs.srcLen.toNat < 0 + 2 :=
  ⟨⟨rfl, rfl, rfl, rfl, rfl, rfl⟩, by decide⟩

theorem witness_ParseErrors_version :
    ParseEnding (parsing [0x00, 0x02] 2) ∧ ¬ (parsing [0x00, 0x02] 2).regs.srcLen.toNat < 0 + 2 ∧
      ¬ ((parsing [0x00, 0x02] 2).pbufByte 0 = 0 ∧ (parsing [0x00, 0x02] 2).pbufByte 1 = 1) :=
  ⟨⟨rfl, rfl, rfl, rfl, rfl, rfl⟩, by decide, by decide⟩

theorem witness_ParseErrors_truncated :
    ParseEnding (parsing header 31) ∧ (parsing header 31).regs.srcLen.toNat < 0 + 32 ∧
      (parsing header 31).pbufByte 0 = 0 ∧ (parsing header 31).pbufByte 1 = 1 :=
  ⟨⟨rfl, rfl, rfl, rfl, rfl, rfl⟩, by decide, by decide, by decide⟩

theorem witness_ParseErrors_geometry :
    let s := parsing ([0x00, 0x01] ++ List.replicate 30 0) 32
    ParseEnding s ∧ ¬ s.regs.srcLen.toNat < 0 + 32 ∧ s.pbufByte 0 = 0 ∧ s.pbufByte 1 = 1 ∧ s.memRead4 2 = 0 :=
  ⟨⟨rfl, rfl, rfl, rfl, rfl, rfl⟩, by decide, by decide, by decide, by decide⟩

theorem witness_ParseErrors_none :
    let s := parsing header 32
    ParseEnding s ∧ ¬ s.regs.srcLen.toNat < 0 + 32 ∧ s.pbufByte 0 = 0 ∧ s.pbufByte 1 = 1 ∧
      ¬ (s.memRead4 2 = 0 ∨ s.memRead4 6 = 0) :=
  ⟨⟨rfl, rfl, rfl, rfl, rfl, rfl⟩, by decide, by decide, by decide, by decide⟩

theorem witness_ParseRunsToItsOutcome :
    let mid := List.replicate Config.parseLatency promptCycle
    let s := { State.reset with inputs := promptCommand 1 :: (mid ++ []) }
    s.status.busy = false ∧ s.status.lfState = .idle ∧ (promptCommand 1).rst = false ∧
      Sys2Proof.decode (promptCommand 1).host = .ok .parse ∧ mid.length = Config.parseLatency ∧
      ∀ i ∈ mid, undisturbed i = true :=
  ⟨rfl, rfl, rfl, rfl, List.length_replicate, fun i hi => by rw [List.eq_of_mem_replicate hi]; rfl⟩

/-! ### Witnesses: DECODE -/

theorem witness_DecodeStarts : State.reset.status.busy = false := rfl

theorem witness_DecodeSuccess :
    let s := decoding 4 4
    DecodeEnding s ∧ s.regs.width.toNat * s.regs.height.toNat = 2 ∧ s.regs.compressed = false ∧ s.regs.width ≠ 0 ∧
      s.regs.height ≠ 0 ∧ s.regs.payloadLen.toNat = 2 * 2 ∧ 2 ≤ Config.fbufPixels ∧
      s.regs.srcLen.toNat ≤ Config.pbufBytes ∧ s.regs.payloadOff.toNat + s.regs.payloadLen.toNat ≤ s.regs.srcLen.toNat :=
  ⟨⟨rfl, rfl, rfl, rfl, rfl, rfl⟩, by decide, rfl, by decide, by decide, by decide, by decide, by decide, by decide⟩

theorem witness_DecodeErrors_compressed :
    let s := { decoding 3 4 with regs := { (decoding 3 4).regs with compressed := true } }
    DecodeEnding s ∧ s.regs.compressed = true := ⟨⟨rfl, rfl, rfl, rfl, rfl, rfl⟩, rfl⟩

theorem witness_DecodeErrors_geometry :
    let s := { decoding 0 4 with regs := { (decoding 0 4).regs with width := 0 } }
    DecodeEnding s ∧ s.regs.compressed = false ∧ s.regs.width = 0 := ⟨⟨rfl, rfl, rfl, rfl, rfl, rfl⟩, rfl, rfl⟩

theorem witness_DecodeErrors_size :
    let s := decoding 5 5
    DecodeEnding s ∧ s.regs.compressed = false ∧ ¬ (s.regs.width = 0 ∨ s.regs.height = 0) ∧
      s.regs.payloadLen.toNat ≠ s.regs.width.toNat * s.regs.height.toNat * 2 :=
  ⟨⟨rfl, rfl, rfl, rfl, rfl, rfl⟩, rfl, by decide, by decide⟩

theorem witness_DecodeErrors_config :
    let s := decoding 4 3
    DecodeEnding s ∧ s.regs.compressed = false ∧ ¬ (s.regs.width = 0 ∨ s.regs.height = 0) ∧
      s.regs.payloadLen.toNat = s.regs.width.toNat * s.regs.height.toNat * 2 ∧
      s.regs.srcLen.toNat < s.regs.payloadOff.toNat + s.regs.payloadLen.toNat :=
  ⟨⟨rfl, rfl, rfl, rfl, rfl, rfl⟩, rfl, by decide, by decide, by decide⟩

theorem witness_DecodeErrors_none : DecodeEnding (decoding 4 4) ∧ (decoding 4 4).decodeError = none :=
  ⟨⟨rfl, rfl, rfl, rfl, rfl, rfl⟩, by decide⟩

theorem witness_DecodeRunsToItsOutcome :
    let mid := List.replicate Config.decodeLatency promptCycle
    let s := { State.reset with inputs := promptCommand 2 :: (mid ++ []) }
    s.status.busy = false ∧ s.status.lfState = .idle ∧ (promptCommand 2).rst = false ∧
      Sys2Proof.decode (promptCommand 2).host = .ok .decode ∧ mid.length = Config.decodeLatency ∧
      ∀ i ∈ mid, undisturbed i = true :=
  ⟨rfl, rfl, rfl, rfl, List.length_replicate, fun i hi => by rw [List.eq_of_mem_replicate hi]; rfl⟩

/-! ### Witnesses: LINK_FETCH and RX_FLUSH -/

theorem witness_LinkFetchStarts :
    let s := cyc (.write 0x00 3) up small
    s.status.busy = false ∧ s.sampled.env.linkUp = true ∧ s.regs.width ≠ 0 ∧ s.regs.height ≠ 0 ∧
      s.regs.width.toNat * s.regs.height.toNat * 2 = 4 ∧ s.regs.packetCount ≠ 0 ∧ 4 % s.regs.packetCount.toNat = 0 ∧
      4 ≤ Config.pbufBytes ∧ s.regs.readWindowMs ≠ 0 :=
  ⟨rfl, rfl, by decide, by decide, by decide, by decide, by decide, by decide, by decide⟩

theorem witness_LinkFetchStartChecks_link_down :
    small.status.busy = false ∧ (cyc (.write 0x00 3) down small).sampled.env.linkUp = false := ⟨rfl, rfl⟩

theorem witness_LinkFetchStartChecks_geometry :
    let s := cyc (.write 0x00 3) up { small with regs := { small.regs with height := 0 } }
    s.status.busy = false ∧ s.sampled.env.linkUp = true ∧ s.regs.height = 0 := ⟨rfl, rfl, rfl⟩

/-- S7: 131584 bytes do not fit PBUF. -/
theorem witness_LinkFetchStartChecks_config :
    let s := cyc (.write 0x00 3) up { small with regs := { small.regs with width := 256, height := 257, packetCount := 1 } }
    s.status.busy = false ∧ s.sampled.env.linkUp = true ∧ ¬ (s.regs.width = 0 ∨ s.regs.height = 0) ∧
      Config.pbufBytes < s.regs.width.toNat * s.regs.height.toNat * 2 := ⟨rfl, rfl, by decide, by decide⟩

/-- S8: 131072 bytes do. -/
theorem witness_LinkFetchStartChecks_none :
    let s := cyc (.write 0x00 3) up { small with regs := { small.regs with width := 256, height := 256, packetCount := 1 } }
    s.status.busy = false ∧ s.fetchStartError s.sampled.env.linkUp = none := ⟨rfl, by decide⟩

theorem witness_ControlWordByteMoves :
    let s := cyc .idle up { fetching .txContinue with int := { Internal.zero with txi := 7 } }
    EngineIn .txContinue s ∧ controlWord .txContinue = some continueWord ∧ s.sampled.env.txReady = true ∧
      s.int.txi + 1 < continueWord.length ∧ continueWord[s.int.txi]? = some 0x65 :=
  ⟨⟨rfl, rfl, rfl, rfl, rfl⟩, rfl, rfl, by decide, rfl⟩

theorem witness_ControlWordEnds_ready :
    let s := cyc .idle up { fetching .txReady with int := { Internal.zero with txi := 5 } }
    EngineIn .txReady s ∧ controlWord .txReady = some readyWord ∧ s.sampled.env.txReady = true ∧
      s.int.txi + 1 = readyWord.length := ⟨⟨rfl, rfl, rfl, rfl, rfl⟩, rfl, rfl, rfl⟩

theorem witness_ControlWordEnds_continue :
    let s := cyc .idle up { fetching .txContinue with int := { Internal.zero with txi := 8 } }
    EngineIn .txContinue s ∧ controlWord .txContinue = some continueWord ∧ s.sampled.env.txReady = true ∧
      s.int.txi + 1 = continueWord.length := ⟨⟨rfl, rfl, rfl, rfl, rfl⟩, rfl, rfl, rfl⟩

theorem witness_ControlWordEnds_retry :
    let s := cyc .idle up { fetching .txRetry with int := { Internal.zero with txi := 5 } }
    EngineIn .txRetry s ∧ controlWord .txRetry = some retryWord ∧ s.sampled.env.txReady = true ∧
      s.int.txi + 1 = retryWord.length := ⟨⟨rfl, rfl, rfl, rfl, rfl⟩, rfl, rfl, rfl⟩

theorem witness_ControlWordEnds_end :
    let s := cyc .idle up { fetching .txEnd with int := { Internal.zero with txi := 3 } }
    EngineIn .txEnd s ∧ controlWord .txEnd = some endWord ∧ s.sampled.env.txReady = true ∧
      s.int.txi + 1 = endWord.length := ⟨⟨rfl, rfl, rfl, rfl, rfl⟩, rfl, rfl, rfl⟩

/-- DEADLINE_MS is 1: 2 pulses are more. -/
theorem witness_StalledTransmit_timeout :
    let s := cyc .idle stalled { fetching .txRetry with regs := { small.regs with elapsedMs := 2 } }
    EngineIn .txRetry s ∧ controlWord .txRetry = some retryWord ∧ s.sampled.env.txReady = false ∧
      s.regs.deadlineMs.toNat < s.regs.elapsedMs.toNat ∧ s.regs.pktReceived.toNat < s.regs.packetCount.toNat :=
  ⟨⟨rfl, rfl, rfl, rfl, rfl⟩, rfl, rfl, by decide, by decide⟩

/-- 1 pulse is not. -/
theorem witness_StalledTransmit_waits :
    let s := cyc .idle stalled { fetching .txRetry with regs := { small.regs with elapsedMs := 1 } }
    EngineIn .txRetry s ∧ controlWord .txRetry = some retryWord ∧ s.sampled.env.txReady = false ∧
      ¬ s.regs.deadlineMs.toNat < s.regs.elapsedMs.toNat := ⟨⟨rfl, rfl, rfl, rfl, rfl⟩, rfl, rfl, by decide⟩

theorem witness_PollDecides_none :
    EngineIn .poll (cyc .idle up (fetching .poll)) ∧ applyRx (.arrive []) (fetching .poll).rxQueue = [] :=
  ⟨⟨rfl, rfl, rfl, rfl, rfl⟩, rfl⟩

theorem witness_PollDecides_some :
    EngineIn .poll (cyc .idle { up with rx := .arrive [0xAA] } (fetching .poll)) ∧
      applyRx (.arrive [0xAA]) (fetching .poll).rxQueue = [0xAA] := ⟨⟨rfl, rfl, rfl, rfl, rfl⟩, rfl⟩

theorem witness_AnnounceDiscardsTwoBytes_second :
    let s := cyc .idle up { fetching .announce with int := { Internal.zero with ann := 1 }, rxQueue := [0x55] }
    EngineIn .announce s ∧ s.int.ann < 2 ∧ applyRx s.sampled.env.rx s.rxQueue ≠ [] ∧ s.int.ann = 1 :=
  ⟨⟨rfl, rfl, rfl, rfl, rfl⟩, by decide, by decide, rfl⟩

theorem witness_AnnounceDiscardsTwoBytes_first :
    let s := cyc .idle up { fetching .announce with rxQueue := [0xAA, 0x55] }
    EngineIn .announce s ∧ s.int.ann < 2 ∧ applyRx s.sampled.env.rx s.rxQueue ≠ [] ∧ s.int.ann ≠ 1 :=
  ⟨⟨rfl, rfl, rfl, rfl, rfl⟩, by decide, by decide, by decide⟩

theorem witness_AnnounceDiscardsTwoBytes_timeout :
    let s := cyc .idle up { fetching .announce with regs := { small.regs with elapsedMs := 2 } }
    EngineIn .announce s ∧ s.int.ann < 2 ∧ applyRx s.sampled.env.rx s.rxQueue = [] ∧
      s.regs.deadlineMs.toNat < s.regs.elapsedMs.toNat := ⟨⟨rfl, rfl, rfl, rfl, rfl⟩, by decide, rfl, by decide⟩

theorem witness_AnnounceDiscardsTwoBytes_waits :
    let s := cyc .idle up { fetching .announce with regs := { small.regs with elapsedMs := 1 } }
    EngineIn .announce s ∧ s.int.ann < 2 ∧ applyRx s.sampled.env.rx s.rxQueue = [] ∧
      ¬ s.regs.deadlineMs.toNat < s.regs.elapsedMs.toNat := ⟨⟨rfl, rfl, rfl, rfl, rfl⟩, by decide, rfl, by decide⟩

theorem witness_CheckTestsDeadline_expired :
    let s := cyc .idle up { fetching .check with regs := { small.regs with elapsedMs := 2 } }
    EngineIn .check s ∧ s.regs.deadlineMs.toNat < s.regs.elapsedMs.toNat := ⟨⟨rfl, rfl, rfl, rfl, rfl⟩, by decide⟩

theorem witness_CheckTestsDeadline_in_time :
    let s := cyc .idle up { fetching .check with regs := { small.regs with elapsedMs := 1 } }
    EngineIn .check s ∧ ¬ s.regs.deadlineMs.toNat < s.regs.elapsedMs.toNat := ⟨⟨rfl, rfl, rfl, rfl, rfl⟩, by decide⟩

/-- The last byte of the last packet: the attempt is full. -/
theorem witness_ReadAttemptCycle_full :
    let s := cyc .idle up
      { fetching .read with
        regs := { small.regs with pktReceived := 1 }, int := { Internal.zero with rdn := 1 }, rxQueue := [7] }
    EngineIn .read s ∧ applyRx s.sampled.env.rx s.rxQueue = [7] ∧
      s.regs.pktReceived.toNat * s.regs.packetSize.toNat + s.int.rdn = 3 ∧ 3 < Config.pbufBytes ∧
      s.int.rdn + 1 = s.regs.packetSize.toNat := ⟨⟨rfl, rfl, rfl, rfl, rfl⟩, rfl, by decide, by decide, by decide⟩

/-- The window's last pulse, without a byte: the attempt is short. -/
theorem witness_ReadAttemptCycle_short :
    let s := cyc .idle stalled { fetching .read with int := { Internal.zero with rdn := 1, rdw := 1 } }
    EngineIn .read s ∧ applyRx s.sampled.env.rx s.rxQueue = [] ∧ s.int.rdn + 0 ≠ s.regs.packetSize.toNat ∧
      s.sampled.env.tickMs = true ∧ s.regs.readWindowMs.toNat ≤ s.int.rdw + 1 :=
  ⟨⟨rfl, rfl, rfl, rfl, rfl⟩, rfl, by decide, rfl, by decide⟩

/-- A byte that does not fill the packet, and no pulse. -/
theorem witness_ReadAttemptCycle_goes_on :
    let s := cyc .idle up { fetching .read with rxQueue := [7] }
    EngineIn .read s ∧ applyRx s.sampled.env.rx s.rxQueue = [7] ∧ s.int.rdn + 1 ≠ s.regs.packetSize.toNat ∧
      s.sampled.env.tickMs = false := ⟨⟨rfl, rfl, rfl, rfl, rfl⟩, rfl, by decide, rfl⟩

theorem witness_LinkDownEndsFetch :
    let s := cyc .idle down (fetching .read)
    s.sampled.rst = false ∧ s.sampled.host = .idle ∧ s.status.busy = true ∧ isFetchState s.status.lfState = true ∧
      s.sampled.env.linkUp = false := ⟨rfl, rfl, rfl, rfl, rfl⟩

/-- F5: a FLUSH with a byte still queued. -/
theorem witness_LinkDownEndsFetch_flush :
    let s := cyc .idle down { flushing with rxQueue := [1] }
    s.sampled.rst = false ∧ s.sampled.host = .idle ∧ s.status.busy = true ∧ s.status.lfState = .flush ∧
      s.sampled.env.linkUp = false := ⟨rfl, rfl, rfl, rfl, rfl⟩

theorem witness_TimeoutOnlyAtItsPoints_check :
    let s := cyc .idle up { fetching .check with regs := { small.regs with elapsedMs := 2 } }
    s.status.errcode = none ∧ ∃ t, step s = .next t ∧ t.status.errcode = some .transferTimeout := ⟨rfl, _, rfl, rfl⟩

theorem witness_TimeoutOnlyAtItsPoints_announce :
    let s := cyc .idle up { fetching .announce with regs := { small.regs with elapsedMs := 2 } }
    s.status.errcode = none ∧ ∃ t, step s = .next t ∧ t.status.errcode = some .transferTimeout := ⟨rfl, _, rfl, rfl⟩

theorem witness_TimeoutOnlyAtItsPoints_stalled :
    let s := cyc .idle stalled { fetching .txContinue with regs := { small.regs with elapsedMs := 2 } }
    s.status.errcode = none ∧ ∃ t, step s = .next t ∧ t.status.errcode = some .transferTimeout := ⟨rfl, _, rfl, rfl⟩

theorem witness_NoFramePollTakesSevenCycles :
    let s := { small with inputs := promptCommand 3 :: (List.replicate 7 promptCycle ++ []) }
    s.status.busy = false ∧ s.rxQueue = [] ∧ s.fetchStartError true = none := ⟨rfl, rfl, by decide⟩

theorem witness_PromptTransferSucceeds :
    let s := { small with
      rxQueue := 0xAA :: 0x55 :: ([1, 2, 3, 4] ++ [])
      inputs := promptCommand 3 :: (List.replicate 46 promptCycle ++ []) }
    s.status.busy = false ∧ s.fetchStartError true = none ∧ s.regs.packetCount.toNat = 2 ∧
      s.regs.width.toNat * s.regs.height.toNat * 2 / 2 = 2 ∧
      (if s.regs.lastCont then 22 else 13) + 2 * (2 + 10) = 46 ∧ ([1, 2, 3, 4] : List Byte).length = 2 * 2 :=
  ⟨rfl, by decide, by decide, by decide, by decide, rfl⟩

theorem witness_ReceivedContentNotInspected :
    let s := cyc .idle up { fetching .read with rxQueue := [1] }
    s.status.busy = true ∧ s.status.lfState ≠ .idle ∧ ([2] : List Byte).length = s.rxQueue.length ∧ ∃ t, step s = .next t :=
  ⟨rfl, by decide, rfl, _, rfl⟩

theorem witness_RxFlushStarts_up :
    small.status.busy = false ∧ (cyc (.write 0x00 4) up small).sampled.env.linkUp = true := ⟨rfl, rfl⟩

theorem witness_RxFlushStarts_down :
    small.status.busy = false ∧ (cyc (.write 0x00 4) down small).sampled.env.linkUp ≠ true := ⟨rfl, by decide⟩

theorem witness_RxFlushEmptiesQueue_byte :
    let s := cyc .idle { up with rx := .arrive [9] } flushing
    EngineIn .flush s ∧ applyRx s.sampled.env.rx s.rxQueue = [9] := ⟨⟨rfl, rfl, rfl, rfl, rfl⟩, rfl⟩

theorem witness_RxFlushEmptiesQueue_empty :
    let s := cyc .idle up flushing
    EngineIn .flush s ∧ applyRx s.sampled.env.rx s.rxQueue = [] := ⟨⟨rfl, rfl, rfl, rfl, rfl⟩, rfl⟩

theorem witness_RxFlushEmptiesQueue :
    let s := { small with rxQueue := [1, 2, 3], inputs := promptCommand 4 :: (List.replicate (3 + 1) promptCycle ++ []) }
    s.status.busy = false ∧ s.rxQueue.length = 3 := ⟨rfl, rfl⟩

/-! ### Witnesses: the host port -/

theorem witness_HostReadReturnsStartValue :
    let s := cyc (.read 0x5F) up State.reset
    s.sampled.rst = false ∧ s.sampled.host = .read 0x5F ∧ regAt 0x5F = some .pbufData ∧
      s.beginCycle.strayStore s.sampled.env = none := ⟨rfl, rfl, rfl, rfl⟩

/-- K15, and the other window. -/
theorem witness_HostReadReturnsStartValue_clauses :
    regAt 0x5C = some .pbufData ∧ (cyc (.read 0x5C) up (fetching .txReady)).status.busy = true ∧
      (cyc (.read 0x5C) up (fetching .txReady)).beginCycle.strayStore up = none ∧
      regAt 0x64 = some .fbufData ∧ (cyc (.read 0x64) up State.reset).status.busy = false := ⟨rfl, rfl, rfl, rfl, rfl⟩

theorem witness_DataWindowReads : (fetching .read).status.busy = true ∧ State.reset.status.busy = false := ⟨rfl, rfl⟩

/-- The last PBUF address. -/
theorem witness_PbufDataWrite :
    let s := cyc (.write 0x5C 0xAB) up { State.reset with regs := { Regs.reset with pbufAddr := 0x1FFFF } }
    s.sampled.rst = false ∧ s.sampled.host = .write 0x5C 0xAB ∧ regAt 0x5C = some .pbufData ∧ s.status.busy = false :=
  ⟨rfl, rfl, rfl, rfl⟩

theorem witness_AcceptedWriteReadsBack :
    let s := cyc (.write 0x58 0x00020005) up State.reset
    s.sampled.rst = false ∧ s.sampled.host = .write 0x58 0x00020005 ∧ regAt 0x58 = some .pbufAddr ∧
      HostReg.pbufAddr ≠ .cmd ∧ HostReg.pbufAddr ≠ .pbufData ∧ writable .pbufAddr = true ∧ s.status.busy = false :=
  ⟨rfl, rfl, rfl, by decide, by decide, rfl, rfl⟩

/-- One address of each clause, at the ends of the words' offsets. -/
theorem witness_AcceptedWriteReadsBack_clauses :
    ([(0x08, .cfg), (0x0F, .ccIn), (0x33, .hdrFlags), (0x58, .pbufAddr), (0x63, .fbufAddr), (0x47, .readWindowMs)] :
        List (BitVec 8 × HostReg)).all
      (fun c => regAt c.1 == some c.2 && c.2 != .cmd && c.2 != .pbufData && writable c.2) = true := by decide

/-- K12. -/
theorem witness_BusyWriteIsRejected_register :
    let s := cyc (.write 0x20 5) up (fetching .txReady)
    s.sampled.host = .write 0x20 5 ∧ regAt 0x20 = some .width ∧ writable .width = true ∧ HostReg.width ≠ .ccIn ∧
      (HostReg.width = .cmd → (5 : Word).extractLsb' 0 4 ≠ 5) ∧ s.status.busy = true ∧
      s.beginCycle.strayStore s.sampled.env = none := ⟨rfl, rfl, rfl, by decide, by decide, rfl, rfl⟩

theorem witness_BusyWriteIsRejected :
    let s := cyc (.write 0x00 6) up (fetching .txReady)
    s.sampled.rst = false ∧ s.sampled.host = .write 0x00 6 ∧ regAt 0x00 = some .cmd ∧ writable .cmd = true ∧
      HostReg.cmd ≠ .ccIn ∧ (6 : Word).extractLsb' 0 4 ≠ 5 ∧ s.status.busy = true ∧
      s.beginCycle.strayStore s.sampled.env = none := ⟨rfl, rfl, rfl, rfl, by decide, by decide, rfl, rfl⟩

/-- The last offset of the map, and the last unmapped one. -/
theorem witness_IgnoredAccesses_write :
    let s := cyc (.write 0x67 1) up (fetching .txReady)
    s.sampled.rst = false ∧ s.beginCycle.strayStore s.sampled.env = none ∧ s.sampled.host = .write 0x67 1 ∧
      ∀ r, regAt 0x67 = some r → writable r = false := ⟨rfl, rfl, rfl, fun r h => by cases h; rfl⟩

theorem witness_IgnoredAccesses_read :
    let s := cyc (.read 0x68) up State.reset
    s.sampled.rst = false ∧ s.beginCycle.strayStore s.sampled.env = none ∧ s.sampled.host = .read 0x68 ∧
      regAt 0x68 = none ∧ regAt 0xFF = none := ⟨rfl, rfl, rfl, rfl, rfl⟩

theorem witness_RejectedIsSticky :
    let s := cyc (.write 0x00 6) up { State.reset with status := { Status.reset with rejected := true } }
    s.status.rejected = true ∧ ∃ t, step s = .next t ∧ t.status.rejected = false := ⟨rfl, _, rfl, rfl⟩

theorem witness_OnlyStartCommandsSetBusy :
    let s := cyc (.write 0x00 1) up State.reset
    s.status.busy = false ∧ ∃ t, step s = .next t ∧ t.status.busy = true := ⟨rfl, _, rfl, rfl⟩

/-- R280: an RX_FLUSH that ends, in a cycle in which the host reads STATUS: the read still shows it running, the next one its
completion (DONE, LAST_CMD 4, LINK_UP). -/
theorem test_completion_seen :
    after (step (cyc (.read 0x04) up flushing)) (fun t => (t.out.hrdata.map BitVec.toNat, statusOf true t)) =
      some (some 0x00194001, 0x00104002) := by decide

/-- What `step_completion_seen` asks for. -/
theorem witness_step_completion_seen :
    let s := cyc .idle up flushing
    s.sampled.rst = false ∧ s.status.busy = true ∧ ∃ t, step s = .next t ∧ t.status.busy = false := ⟨rfl, rfl, _, rfl, rfl⟩

/-! ### Witnesses: the whole machine -/

theorem witness_OperandsFixedWhileBusy :
    let s := cyc (.write 0x20 5) up { parsing header 32 with int := { Internal.zero with lat := 2 } }
    s.status.busy = true ∧ s.status.lfState = .idle ∧ ∃ t, step s = .next t ∧ t.status.busy = true := ⟨rfl, rfl, _, rfl, rfl⟩

theorem witness_WhoWritesPbuf_host :
    let s := cyc (.write 0x5C 1) up (withBytes [0] State.reset)
    ∃ t, step s = .next t ∧ t.pbufByte 0 ≠ s.pbufByte 0 := ⟨_, rfl, by decide⟩

theorem witness_WhoWritesPbuf_read :
    let s := cyc .idle up (withBytes [0] { fetching .read with rxQueue := [1] })
    ∃ t, step s = .next t ∧ t.pbufByte 0 ≠ s.pbufByte 0 := ⟨_, rfl, by decide⟩

/-- Whatever value U2 gives the byte, this start differs from it. -/
theorem witness_WhoWritesPbuf_lost :
    let s := cyc .idle down
      (withBytes [Config.freePbuf 0 0 + 1] { fetching .read with int := { Internal.zero with stored := true } })
    ∃ t, step s = .next t ∧ t.pbufByte 0 ≠ s.pbufByte 0 :=
  ⟨_, rfl, (by decide : ∀ b : Byte, b ≠ b + 1) (Config.freePbuf 0 0)⟩

theorem witness_WhoWritesFbuf_success :
    let s := { decoding 4 4 with fbuf := [(0, 0)] }
    ∃ t, step s = .next t ∧ t.fbufPixel 0 ≠ s.fbufPixel 0 := ⟨_, rfl, by decide⟩

theorem pixel_ne_succ (p : Pixel) : p ≠ p + 1 := by
  intro h
  have h2 := congrArg BitVec.toNat h
  have h3 := p.isLt
  rw [BitVec.toNat_add] at h2
  change p.toNat = (p.toNat + 1) % 2 ^ 24 at h2
  omega

/-- Whatever value U3 gives the pixel, this start differs from it. -/
theorem witness_WhoWritesFbuf_cut :
    let s := resetNext
      { decoding 4 4 with
        fbuf := [(0, Config.freeFbuf 0 0 + 1)], int := { Internal.zero with lat := 2, res := some .success } }
    ∃ t, step s = .next t ∧ t.fbufPixel 0 ≠ s.fbufPixel 0 := ⟨_, rfl, pixel_ne_succ (Config.freeFbuf 0 0)⟩

/-- The same DECODE cut by an ABORT. -/
theorem witness_WhoWritesFbuf_aborted :
    let s := cyc (.write 0x00 5) up
      { decoding 4 4 with
        fbuf := [(0, Config.freeFbuf 0 0 + 1)], int := { Internal.zero with lat := 2, res := some .success } }
    Sys2Proof.decode s.sampled.host = .ok .abort ∧ ∃ t, step s = .next t ∧ t.fbufPixel 0 ≠ s.fbufPixel 0 ∧
      t.status.errcode = some .cancelled := ⟨rfl, _, rfl, pixel_ne_succ (Config.freeFbuf 0 0), rfl⟩

theorem witness_BytesMoveByHandshake :
    let s := cyc .idle up { fetching .read with rxQueue := [1] }
    (∃ t, step s = .next t ∧ t.out.rxReady = true) ∧
      ∃ t, step (cyc .idle up (fetching .txReady)) = .next t ∧ t.out.txValid = true := ⟨⟨_, rfl, rfl⟩, ⟨_, rfl, rfl⟩⟩

/-- A reset cycle, a cycle with nothing to offer, and the last byte of a word. -/
theorem witness_BytesMoveByHandshake_ports :
    (∃ t, step (resetNext (fetching .read)) = .next t) ∧
    (∃ t, step (cyc .idle down (fetching .read)) = .next t ∧ t.out.txValid = false ∧ t.out.rxReady = false) ∧
    (let s := cyc .idle up { fetching .txEnd with int := { Internal.zero with txi := 3 } }
     ∃ t, step s = .next t ∧ t.out.txValid = true ∧ controlWord s.status.lfState = some endWord ∧
       endWord[s.int.txi]? = some 0x0A) := ⟨⟨_, rfl⟩, ⟨_, rfl, rfl, rfl⟩, ⟨_, rfl, rfl, rfl, rfl⟩⟩

theorem witness_IdleIsQuiescent :
    let s := cyc .idle up State.reset
    s.status.busy = false ∧ s.sampled.rst = false ∧ s.sampled.host = .idle := ⟨rfl, rfl, rfl⟩

theorem witness_ResetCycle : (resetNext (fetching .read)).sampled.rst = true := rfl

theorem witness_ResetCycle_clauses :
    State.reset.status.busy = false ∧ isFetchState (decoding 4 4).status.lfState = false ∧
      ¬ ((decoding 4 4).status.busy = true ∧ (decoding 4 4).status.lfState = .idle ∧ (decoding 4 4).status.lastCmd = 2 ∧
        (decoding 4 4).int.res = some .success) := ⟨rfl, rfl, by decide⟩

theorem witness_ResetRegisterValues : HostReg.width ≠ .pbufData ∧ HostReg.width ≠ .fbufData := by decide

/-- A LINK_FETCH in TX_READY, as its start leaves it, meets the invariant. -/
theorem fetching_inv : (cyc .idle up (fetching .txReady)).Inv := by
  refine ⟨⟨rfl, rfl⟩, ⟨rfl, ?_, ?_, ?_, ?_⟩, ?_⟩
  · intro h; cases h
  · intro _; exact ⟨rfl, rfl⟩
  · intro h; cases h
  · intro h; cases h
  · intro _
    refine ⟨?_, ?_, ?_, ?_⟩
    · intro h; cases h
    · intro h; cases h
    · intro _
      refine ⟨rfl, rfl, by decide, by decide, by decide, by decide, by decide, by decide, by decide, by decide, ?_, ?_, ?_,
        ?_, ?_, ?_⟩
      · intro w hw; cases hw; decide
      · intro h; cases h
      · intro h; cases h
      · intro h; cases h
      · intro _ _; decide
      · intro h; cases h
    · intro h; cases h

/-- A LINK_FETCH in READ, with the last byte of the payload to come. -/
theorem reading_inv :
    (cyc .idle up
      { fetching .read with regs := { small.regs with pktReceived := 1 }, int := { Internal.zero with rdn := 1 } }).Inv := by
  refine ⟨⟨rfl, rfl⟩, ⟨rfl, ?_, ?_, ?_, ?_⟩, ?_⟩
  · intro h; cases h
  · intro _; exact ⟨rfl, rfl⟩
  · intro h; cases h
  · intro h; cases h
  · intro _
    refine ⟨?_, ?_, ?_, ?_⟩
    · intro h; cases h
    · intro h; cases h
    · intro _
      refine ⟨rfl, rfl, by decide, by decide, by decide, by decide, by decide, by decide, by decide, by decide, ?_, ?_, ?_,
        ?_, ?_, ?_⟩
      · intro w hw; cases hw
      · intro _; rfl
      · intro h; cases h
      · intro _; decide
      · intro _ _; decide
      · intro h; cases h
    · intro h; cases h

theorem witness_StepKeepsInvariant :
    (cyc .idle up (fetching .txReady)).Inv ∧ ∃ t, step (cyc .idle up (fetching .txReady)) = .next t :=
  ⟨fetching_inv, _, rfl⟩

theorem witness_NeverStops : (cyc .idle up (fetching .txReady)).Inv := fetching_inv

theorem witness_FetchStaysInPayload :
    (cyc .idle up (fetching .txReady)).Inv ∧ (fetching .txReady).status.busy = true ∧
      isFetchState (fetching .txReady).status.lfState = true := ⟨fetching_inv, rfl, rfl⟩

theorem witness_FetchStaysInPayload_read :
    let s := cyc .idle up
      { fetching .read with regs := { small.regs with pktReceived := 1 }, int := { Internal.zero with rdn := 1 } }
    s.Inv ∧ s.status.busy = true ∧ s.status.lfState = .read := ⟨reading_inv, rfl, rfl⟩

end Sys2Proof.Tests
end

section
/-!
SUPPORT. What GPCL's own step can do (10_state.md R21.1), said once: `FetchMove` names the moves of a LINK_FETCH with the link up,
`UnitMove` those of every running command, and `State.unitStep_move` says that the step is always one of them.
-/

namespace Sys2Proof.Machine

/-! ### Field laws of the engine's operations -/

@[simp] theorem State.failTransfer_status (e : ErrCode) (s : State) :
    (s.failTransfer e).status =
      { s.status with busy := false, done := true, err := true, errcode := some e, lfState := .idle } := by
  simp [State.failTransfer]
@[simp] theorem State.failTransfer_regs (e : ErrCode) (s : State) : (s.failTransfer e).regs = s.regs := by
  simp [State.failTransfer]
@[simp] theorem State.failTransfer_pbuf (e : ErrCode) (s : State) :
    (s.failTransfer e).pbuf = s.loseFetched.pbuf := rfl
@[simp] theorem State.failTransfer_fbuf (e : ErrCode) (s : State) : (s.failTransfer e).fbuf = s.fbuf := by
  simp [State.failTransfer]
@[simp] theorem State.failTransfer_rxQueue (e : ErrCode) (s : State) : (s.failTransfer e).rxQueue = s.rxQueue := by
  simp [State.failTransfer]
@[simp] theorem State.failTransfer_txSent (e : ErrCode) (s : State) : (s.failTransfer e).txSent = s.txSent := by
  simp [State.failTransfer]
@[simp] theorem State.failTransfer_out (e : ErrCode) (s : State) : (s.failTransfer e).out = s.out := by
  simp [State.failTransfer]

@[simp] theorem State.fetchSuccess_status (s : State) :
    s.fetchSuccess.status =
      { s.status with
        busy := false, done := true, err := false, errcode := none, frameValid := true, hdrValid := false,
        lfState := .idle } := rfl
@[simp] theorem State.fetchSuccess_pbuf (s : State) : s.fetchSuccess.pbuf = s.pbuf := rfl
@[simp] theorem State.fetchSuccess_fbuf (s : State) : s.fetchSuccess.fbuf = s.fbuf := rfl
@[simp] theorem State.fetchSuccess_rxQueue (s : State) : s.fetchSuccess.rxQueue = s.rxQueue := rfl
@[simp] theorem State.fetchSuccess_txSent (s : State) : s.fetchSuccess.txSent = s.txSent := rfl
@[simp] theorem State.fetchSuccess_out (s : State) : s.fetchSuccess.out = s.out := rfl

/-- READ with no byte presented takes none. -/
theorem State.takeByte_nil {s : State} (h : s.rxQueue = []) : s.takeByte = s := by
  simp [State.takeByte, h]

/-- READ with a byte presented stores it and counts it (42_link_framer.md R195). -/
theorem State.takeByte_cons {s : State} {b : Byte} {rest : List Byte} (h : s.rxQueue = b :: rest) :
    s.takeByte =
      { s.pbufWrite s.storeAddr b with
        rxQueue := rest, int := { s.int with rdn := s.int.rdn + 1, stored := true } } := by
  simp [State.takeByte, h]

@[simp] theorem State.takeByte_status (s : State) : s.takeByte.status = s.status := by
  unfold State.takeByte; split <;> simp
@[simp] theorem State.takeByte_regs (s : State) : s.takeByte.regs = s.regs := by
  unfold State.takeByte; split <;> simp
@[simp] theorem State.takeByte_fbuf (s : State) : s.takeByte.fbuf = s.fbuf := by
  unfold State.takeByte; split <;> simp
@[simp] theorem State.takeByte_rxQueue (s : State) : s.takeByte.rxQueue = s.rxQueue.tail := by
  unfold State.takeByte; split <;> simp_all
@[simp] theorem State.takeByte_txSent (s : State) : s.takeByte.txSent = s.txSent := by
  unfold State.takeByte; split <;> simp
@[simp] theorem State.takeByte_out (s : State) : s.takeByte.out = s.out := by
  unfold State.takeByte; split <;> simp
@[simp] theorem State.takeByte_txi (s : State) : s.takeByte.int.txi = s.int.txi := by
  unfold State.takeByte; split <;> simp
@[simp] theorem State.takeByte_ann (s : State) : s.takeByte.int.ann = s.int.ann := by
  unfold State.takeByte; split <;> simp
@[simp] theorem State.takeByte_rdw (s : State) : s.takeByte.int.rdw = s.int.rdw := by
  unfold State.takeByte; split <;> simp
@[simp] theorem State.takeByte_res (s : State) : s.takeByte.int.res = s.int.res := by
  unfold State.takeByte; split <;> simp
/-- One cycle of READ takes at most one byte. -/
theorem State.takeByte_rdn_le (s : State) : s.takeByte.int.rdn ≤ s.int.rdn + 1 := by
  unfold State.takeByte; split <;> simp

/-- A full attempt counts its packet and asks for the next or ends (42_link_framer.md R197). -/
theorem State.fullAttempt_eq (s : State) :
    s.fullAttempt =
      { s with
        status := { s.status with
          lfState :=
            if decide ((s.regs.pktReceived + 1).toNat < s.regs.packetCount.toNat) || s.regs.lastCont then .txContinue
            else .txEnd }
        regs := { s.regs with pktReceived := s.regs.pktReceived + 1 }
        int := { s.int with txi := 0 } } :=
  (apply_ite
    (fun st => State.goto st (State.setTxi 0 { s with regs := { s.regs with pktReceived := s.regs.pktReceived + 1 } }))
    _ _ _).symm

@[simp] theorem State.fullAttempt_status (s : State) :
    s.fullAttempt.status =
      { s.status with
        lfState :=
          if (s.regs.pktReceived + 1).toNat < s.regs.packetCount.toNat ∨ s.regs.lastCont = true then .txContinue
          else .txEnd } := by
  simp only [State.fullAttempt_eq, Bool.or_eq_true, decide_eq_true_eq]
@[simp] theorem State.fullAttempt_regs (s : State) :
    s.fullAttempt.regs = { s.regs with pktReceived := s.regs.pktReceived + 1 } := by
  rw [State.fullAttempt_eq]
@[simp] theorem State.fullAttempt_int (s : State) : s.fullAttempt.int = { s.int with txi := 0 } := by
  rw [State.fullAttempt_eq]
@[simp] theorem State.fullAttempt_pbuf (s : State) : s.fullAttempt.pbuf = s.pbuf := by
  rw [State.fullAttempt_eq]
@[simp] theorem State.fullAttempt_fbuf (s : State) : s.fullAttempt.fbuf = s.fbuf := by
  rw [State.fullAttempt_eq]
@[simp] theorem State.fullAttempt_rxQueue (s : State) : s.fullAttempt.rxQueue = s.rxQueue := by
  rw [State.fullAttempt_eq]
@[simp] theorem State.fullAttempt_txSent (s : State) : s.fullAttempt.txSent = s.txSent := by
  rw [State.fullAttempt_eq]
@[simp] theorem State.fullAttempt_out (s : State) : s.fullAttempt.out = s.out := by
  rw [State.fullAttempt_eq]

/-- The engine's state after a pulse in an attempt that is not full (42_link_framer.md R195, R198). -/
@[simp] theorem State.windowTick_status (s : State) :
    s.windowTick.status =
      { s.status with
        lfState := if s.regs.readWindowMs.toNat ≤ s.int.rdw + 1 then .txRetry else s.status.lfState } := by
  unfold State.windowTick; dsimp only; split <;> rfl
@[simp] theorem State.windowTick_regs (s : State) : s.windowTick.regs = s.regs := by
  unfold State.windowTick; dsimp only; split <;> rfl
@[simp] theorem State.windowTick_int (s : State) :
    s.windowTick.int =
      { s.int with
        rdw := s.int.rdw + 1
        txi := if s.regs.readWindowMs.toNat ≤ s.int.rdw + 1 then 0 else s.int.txi } := by
  unfold State.windowTick; dsimp only; split <;> rfl
@[simp] theorem State.windowTick_pbuf (s : State) : s.windowTick.pbuf = s.pbuf := by
  unfold State.windowTick; dsimp only; split <;> rfl
@[simp] theorem State.windowTick_fbuf (s : State) : s.windowTick.fbuf = s.fbuf := by
  unfold State.windowTick; dsimp only; split <;> rfl
@[simp] theorem State.windowTick_rxQueue (s : State) : s.windowTick.rxQueue = s.rxQueue := by
  unfold State.windowTick; dsimp only; split <;> rfl
@[simp] theorem State.windowTick_txSent (s : State) : s.windowTick.txSent = s.txSent := by
  unfold State.windowTick; dsimp only; split <;> rfl
@[simp] theorem State.windowTick_out (s : State) : s.windowTick.out = s.out := by
  unfold State.windowTick; dsimp only; split <;> rfl

/-! ### The moves of LINK_FETCH -/

/-- The state after the byte `I.txi` of the control word `w` has moved and `I.txi` has become `v`
(42_link_framer.md R186). -/
def State.sendByte (w : List Byte) (v : Nat) (s : State) : State :=
  (s.sent (w.getD s.int.txi 0)).setTxi v

@[simp] theorem State.sendByte_status (w : List Byte) (v : Nat) (s : State) : (s.sendByte w v).status = s.status := rfl
@[simp] theorem State.sendByte_regs (w : List Byte) (v : Nat) (s : State) : (s.sendByte w v).regs = s.regs := rfl
@[simp] theorem State.sendByte_int (w : List Byte) (v : Nat) (s : State) :
    (s.sendByte w v).int = { s.int with txi := v } := rfl
@[simp] theorem State.sendByte_pbuf (w : List Byte) (v : Nat) (s : State) : (s.sendByte w v).pbuf = s.pbuf := rfl
@[simp] theorem State.sendByte_fbuf (w : List Byte) (v : Nat) (s : State) : (s.sendByte w v).fbuf = s.fbuf := rfl
@[simp] theorem State.sendByte_rxQueue (w : List Byte) (v : Nat) (s : State) :
    (s.sendByte w v).rxQueue = s.rxQueue := rfl
@[simp] theorem State.sendByte_txSent (w : List Byte) (v : Nat) (s : State) :
    (s.sendByte w v).txSent = s.txSent ++ [w.getD s.int.txi 0] := rfl
@[simp] theorem State.sendByte_out (w : List Byte) (v : Nat) (s : State) : (s.sendByte w v).out = s.out := rfl

/-- The engine waits for what it is not offered: a TX state for `tx_ready`, ANNOUNCE for a received byte. -/
def State.Starved (env : EnvIn) (s : State) : Prop :=
  (∃ w, controlWord s.status.lfState = some w ∧ env.txReady = false) ∨ (s.status.lfState = .announce ∧ s.rxQueue = [])

/-- What one cycle of a LINK_FETCH with the link up can make of `s`, before the pulse is counted: one constructor for each clause
of 42_link_framer.md R186 to R199. -/
inductive FetchMove (env : EnvIn) (s : State) : State → Prop
  /-- a byte of a control word moves, and more follow -/
  | wordByte (w : List Byte) (hw : controlWord s.status.lfState = some w) (hr : env.txReady = true)
      (hi : s.int.txi + 1 < w.length) : FetchMove env s (s.sendByte w (s.int.txi + 1))
  /-- the last byte of `ready` -/
  | readySent (hl : s.status.lfState = .txReady) (hr : env.txReady = true) :
      FetchMove env s ((s.sendByte readyWord 0).goto .poll)
  /-- the last byte of `continue` -/
  | continueSent (hl : s.status.lfState = .txContinue) (hr : env.txReady = true) :
      FetchMove env s ((s.sendByte continueWord 0).goto (if s.morePackets then .check else .txEnd))
  /-- the last byte of `retry` -/
  | retrySent (hl : s.status.lfState = .txRetry) (hr : env.txReady = true) :
      FetchMove env s ((s.sendByte retryWord 0).countRetry.goto .check)
  /-- the last byte of `end` -/
  | endSent (hl : s.status.lfState = .txEnd) (hr : env.txReady = true) :
      FetchMove env s (s.sendByte endWord 0).fetchSuccess
  /-- a cycle in which the engine waits -/
  | waits (hs : s.Starved env) : FetchMove env s s
  /-- the deadline ends the command, in a waiting cycle or in CHECK -/
  | timesOut (hs : s.Starved env ∨ s.status.lfState = .check) : FetchMove env s (s.failTransfer .transferTimeout)
  /-- POLL finds a frame announced -/
  | frameAnnounced (hl : s.status.lfState = .poll) :
      FetchMove env s
        (State.goto .announce { s with regs := { s.regs with elapsedMs := 0 }, int := { s.int with ann := 0 } })
  /-- POLL finds no frame -/
  | noFrame (hl : s.status.lfState = .poll) :
      FetchMove env s (State.finish { s with status := { s.status with noframe := true } })
  /-- ANNOUNCE discards a byte, and one more follows -/
  | discards (b : Byte) (rest : List Byte) (hl : s.status.lfState = .announce) (hq : s.rxQueue = b :: rest)
      (hn : s.int.ann + 1 < 2) :
      FetchMove env s { s with rxQueue := rest, int := { s.int with ann := s.int.ann + 1 } }
  /-- ANNOUNCE discards its last byte -/
  | discardsLast (b : Byte) (rest : List Byte) (hl : s.status.lfState = .announce) (hq : s.rxQueue = b :: rest) :
      FetchMove env s
        (State.goto .txContinue { s with rxQueue := rest, int := { s.int with ann := s.int.ann + 1, txi := 0 } })
  /-- CHECK opens a read attempt -/
  | opens (hl : s.status.lfState = .check) :
      FetchMove env s (State.goto .read { s with int := { s.int with rdn := 0, rdw := 0 } })
  /-- READ, and the attempt is full -/
  | fills (hl : s.status.lfState = .read) (hf : s.takeByte.int.rdn = s.regs.packetSize.toNat) :
      FetchMove env s s.takeByte.fullAttempt
  /-- READ, in a cycle with a pulse -/
  | pulses (hl : s.status.lfState = .read) (hf : s.takeByte.int.rdn ≠ s.regs.packetSize.toNat) :
      FetchMove env s s.takeByte.windowTick
  /-- READ, in a cycle without a pulse -/
  | takes (hl : s.status.lfState = .read) (hf : s.takeByte.int.rdn ≠ s.regs.packetSize.toNat) :
      FetchMove env s s.takeByte

/-- A cycle that sends a control word moves a byte and goes on, moves the last byte, or is stalled. -/
theorem sendWord_move {env : EnvIn} {s : State} {w : List Byte} {last stalled : State → State}
    (hw : controlWord s.status.lfState = some w)
    (hlast : env.txReady = true → FetchMove env s (last (s.sendByte w 0)))
    (hstalled : s.Starved env → FetchMove env s (stalled s)) :
    FetchMove env s (sendWord w env.txReady last stalled s) := by
  unfold sendWord
  split
  next hr =>
    dsimp only
    split
    · exact hlast hr
    · exact .wordByte w hw hr (by omega)
  next hr => exact hstalled (.inl ⟨w, hw, by simpa using hr⟩)

/-- A stalled TX_CONTINUE or TX_RETRY waits or times out (42_link_framer.md R192). -/
theorem stallBeforeLast_move {env : EnvIn} {s : State} (h : s.Starved env) : FetchMove env s s.stallBeforeLast := by
  unfold State.stallBeforeLast
  split
  · exact .timesOut (.inl h)
  · exact .waits h

theorem pollStep_move {env : EnvIn} {s : State} (hl : s.status.lfState = .poll) : FetchMove env s s.pollStep := by
  unfold State.pollStep
  split
  · exact .frameAnnounced hl
  · exact .noFrame hl

theorem announceStep_move {env : EnvIn} {s : State} (hl : s.status.lfState = .announce) :
    FetchMove env s s.announceStep := by
  unfold State.announceStep
  split
  next b rest hq =>
    dsimp only
    split
    · exact .discardsLast b rest hl hq
    · exact .discards b rest hl hq (by omega)
  next hq =>
    split
    · exact .timesOut (.inl (.inr ⟨hl, hq⟩))
    · exact .waits (.inr ⟨hl, hq⟩)

theorem checkStep_move {env : EnvIn} {s : State} (hl : s.status.lfState = .check) : FetchMove env s s.checkStep := by
  unfold State.checkStep
  split
  · exact .timesOut (.inr hl)
  · exact .opens hl

theorem readStep_move {env : EnvIn} {s : State} (hl : s.status.lfState = .read) :
    FetchMove env s (s.readStep env.tickMs) := by
  unfold State.readStep
  dsimp only
  rw [State.takeByte_regs]
  split
  next hf => exact .fills hl hf
  next hf =>
    split
    · exact .pulses hl hf
    · exact .takes hl hf

/-- The engine's step is one of its moves. -/
theorem fetchStep_move (env : EnvIn) {s : State} (hf : isFetchState s.status.lfState = true) :
    FetchMove env s (s.fetchStep env) := by
  unfold State.fetchStep
  cases hl : s.status.lfState with
  | txReady => exact sendWord_move (by rw [hl]; rfl) (.readySent hl) .waits
  | poll => exact pollStep_move hl
  | announce => exact announceStep_move hl
  | txContinue =>
    refine sendWord_move (by rw [hl]; rfl) (fun hr => ?_) stallBeforeLast_move
    rw [← apply_ite (fun st => State.goto st (s.sendByte continueWord 0))]
    exact .continueSent hl hr
  | check => exact checkStep_move hl
  | read => exact readStep_move hl
  | txRetry => exact sendWord_move (by rw [hl]; rfl) (.retrySent hl) stallBeforeLast_move
  | txEnd => exact sendWord_move (by rw [hl]; rfl) (.endSent hl) .waits
  | idle => rw [hl] at hf; cases hf
  | flush => rw [hl] at hf; cases hf

/-! ### The moves of every running command -/

/-- What one cycle can make of `s` when a command runs (10_state.md R21.1, R25). -/
inductive UnitMove (env : EnvIn) (s : State) : State → Prop
  /-- BUSY in IDLE with a LAST_CMD that is no PARSE or DECODE (log 13) -/
  | stays (hl : s.status.lfState = .idle) (h1 : s.status.lastCmd ≠ 1) (h2 : s.status.lastCmd ≠ 2) : UnitMove env s s
  /-- a PARSE or DECODE counts a cycle (44_control_commands.md R251) -/
  | counts (hl : s.status.lfState = .idle) (hc : s.status.lastCmd = 1 ∨ s.status.lastCmd = 2) (hn : 1 < s.int.lat) :
      UnitMove env s { s with int := { s.int with lat := s.int.lat - 1 } }
  /-- the last cycle of a PARSE -/
  | parses (hl : s.status.lfState = .idle) (hc : s.status.lastCmd = 1) : UnitMove env s s.parseCommit
  /-- the last cycle of a DECODE -/
  | decodes (hl : s.status.lfState = .idle) (hc : s.status.lastCmd = 2) : UnitMove env s s.decodeCommit
  /-- RX_FLUSH discards a byte (42_link_framer.md R205) -/
  | flushes (b : Byte) (rest : List Byte) (hl : s.status.lfState = .flush) (hu : env.linkUp = true)
      (hq : s.rxQueue = b :: rest) : UnitMove env s { s with rxQueue := rest }
  /-- RX_FLUSH finds the queue empty -/
  | flushed (hl : s.status.lfState = .flush) (hq : s.rxQueue = []) : UnitMove env s s.finish
  /-- RX_FLUSH finds the link down -/
  | flushDown (hl : s.status.lfState = .flush) (hu : env.linkUp = false) :
      UnitMove env s (s.raise .channelUnavailable)
  /-- LINK_FETCH finds the link down (42_link_framer.md R201) -/
  | linkDown (hf : isFetchState s.status.lfState = true) (hu : env.linkUp = false) :
      UnitMove env s (s.failTransfer .channelUnavailable)
  /-- LINK_FETCH makes a move, and a pulse is counted if the command goes on (42_link_framer.md R193) -/
  | fetches (u : State) (hf : isFetchState s.status.lfState = true) (hu : env.linkUp = true) (hm : FetchMove env s u) :
      UnitMove env s (u.countElapsed env.tickMs s.status.lfState)

theorem linkStep_move (env : EnvIn) {s : State} (hf : isFetchState s.status.lfState = true) :
    UnitMove env s (s.linkStep env) := by
  unfold State.linkStep
  split
  next hu => exact .fetches _ hf hu (fetchStep_move env hf)
  next hu => exact .linkDown hf (by simpa using hu)

theorem flushStep_move (env : EnvIn) {s : State} (hl : s.status.lfState = .flush) :
    UnitMove env s (s.flushStep env) := by
  unfold State.flushStep
  split
  next hu =>
    split
    next b rest hq => exact .flushes b rest hl hu hq
    next hq => exact .flushed hl hq
  next hu => exact .flushDown hl (by simpa using hu)

theorem parseStep_move (env : EnvIn) {s : State} (hl : s.status.lfState = .idle) (hc : s.status.lastCmd = 1) :
    UnitMove env s s.parseStep := by
  unfold State.parseStep
  split
  · exact .parses hl hc
  · exact .counts hl (.inl hc) (by omega)

theorem decodeStep_move (env : EnvIn) {s : State} (hl : s.status.lfState = .idle) (hc : s.status.lastCmd = 2) :
    UnitMove env s s.decodeStep := by
  unfold State.decodeStep
  split
  · exact .decodes hl hc
  · exact .counts hl (.inr hc) (by omega)

/-- GPCL's step of a running command is one of the moves. -/
theorem State.unitStep_move (env : EnvIn) {s : State} (hb : s.status.busy = true) : UnitMove env s (s.unitStep env) := by
  unfold State.unitStep
  rw [if_pos hb]
  split
  next hl =>
    split
    next h1 => exact parseStep_move env hl h1
    next h1 =>
      split
      next h2 => exact decodeStep_move env hl h2
      next h2 => exact .stays hl h1 h2
  next hl => exact flushStep_move env hl
  all_goals rename_i hl; exact linkStep_move env (by rw [hl]; rfl)

/-! ### The two completions of the frame units -/

/-- What a PARSE's commit can be: a completion, whose status differs from the start's in HDR_VALID at most, of a state with the
same memories, channel and ports. -/
theorem State.parseCommit_cases (s : State) :
    (∃ e c v, s.parseCommit = State.raise e { s with regs := { s.regs with cursor := c, hdrVersion := v } }) ∨
    s.parseCommit =
      (((s.setHdrVersion (s.memRead2 s.regs.cursor.toNat)).setCursor (s.regs.cursor.toNat + Config.headerLen)).acceptHeader
        s.regs.cursor.toNat).finish := by
  unfold State.parseCommit
  dsimp only
  repeat' split
  · exact .inl ⟨_, s.regs.cursor, s.regs.hdrVersion, rfl⟩
  · exact .inl ⟨_, _, s.regs.hdrVersion, rfl⟩
  · exact .inl ⟨_, _, _, rfl⟩
  · exact .inl ⟨_, _, _, rfl⟩
  · exact .inl ⟨_, _, _, rfl⟩
  · exact .inr rfl

/-- STATUS after a PARSE's commit: a completion, with HDR_VALID as the commit leaves it. -/
theorem State.parseCommit_status (s : State) :
    ∃ e hv, s.parseCommit.status =
      { s.status with
        busy := false, done := true, err := Option.isSome e, errcode := e, lfState := .idle, hdrValid := hv } := by
  obtain ⟨e, c, v, h⟩ | h := s.parseCommit_cases <;> rw [h]
  · exact ⟨some e, s.status.hdrValid, rfl⟩
  · exact ⟨none, true, rfl⟩

@[simp] theorem State.parseCommit_pbuf (s : State) : s.parseCommit.pbuf = s.pbuf := by
  obtain ⟨e, c, v, h⟩ | h := s.parseCommit_cases <;> rw [h] <;> rfl
@[simp] theorem State.parseCommit_fbuf (s : State) : s.parseCommit.fbuf = s.fbuf := by
  obtain ⟨e, c, v, h⟩ | h := s.parseCommit_cases <;> rw [h] <;> rfl
@[simp] theorem State.parseCommit_rxQueue (s : State) : s.parseCommit.rxQueue = s.rxQueue := by
  obtain ⟨e, c, v, h⟩ | h := s.parseCommit_cases <;> rw [h] <;> rfl
@[simp] theorem State.parseCommit_txSent (s : State) : s.parseCommit.txSent = s.txSent := by
  obtain ⟨e, c, v, h⟩ | h := s.parseCommit_cases <;> rw [h] <;> rfl
@[simp] theorem State.parseCommit_out (s : State) : s.parseCommit.out = s.out := by
  obtain ⟨e, c, v, h⟩ | h := s.parseCommit_cases <;> rw [h] <;> rfl
@[simp] theorem State.parseCommit_busy (s : State) : s.parseCommit.status.busy = false := by
  obtain ⟨e, hv, h⟩ := s.parseCommit_status; rw [h]
@[simp] theorem State.parseCommit_noframe (s : State) : s.parseCommit.status.noframe = s.status.noframe := by
  obtain ⟨e, hv, h⟩ := s.parseCommit_status; rw [h]
@[simp] theorem State.parseCommit_rejected (s : State) : s.parseCommit.status.rejected = s.status.rejected := by
  obtain ⟨e, hv, h⟩ := s.parseCommit_status; rw [h]

/-- What a DECODE's commit can be: an error completion, or the payload's conversion, which FBUF holds (43_frame_decoder.md R236,
R237). -/
theorem State.decodeCommit_cases (s : State) :
    (∃ e, s.decodeCommit = s.raise e) ∨
    (s.pixelCount ≤ Config.fbufPixels ∧ s.decodeCommit = s.convertPayload.setPixValid.finish) := by
  unfold State.decodeCommit
  split
  next e _ => exact .inl ⟨e, rfl⟩
  next h =>
    refine .inr ⟨?_, rfl⟩
    unfold State.decodeError at h
    split_ifs at h with hc hg hp hr
    simp only [not_or, not_lt] at hr
    exact hr.1

/-- STATUS after a DECODE's commit: a completion, with PIX_VALID as the commit leaves it. -/
theorem State.decodeCommit_status (s : State) :
    ∃ e pv, s.decodeCommit.status =
      { s.status with
        busy := false, done := true, err := Option.isSome e, errcode := e, lfState := .idle, pixValid := pv } := by
  obtain ⟨e, h⟩ | ⟨_, h⟩ := s.decodeCommit_cases <;> rw [h]
  · exact ⟨some e, s.status.pixValid, rfl⟩
  · exact ⟨none, true, rfl⟩

@[simp] theorem State.decodeCommit_pbuf (s : State) : s.decodeCommit.pbuf = s.pbuf := by
  obtain ⟨e, h⟩ | ⟨_, h⟩ := s.decodeCommit_cases <;> rw [h] <;> rfl
@[simp] theorem State.decodeCommit_rxQueue (s : State) : s.decodeCommit.rxQueue = s.rxQueue := by
  obtain ⟨e, h⟩ | ⟨_, h⟩ := s.decodeCommit_cases <;> rw [h] <;> rfl
@[simp] theorem State.decodeCommit_txSent (s : State) : s.decodeCommit.txSent = s.txSent := by
  obtain ⟨e, h⟩ | ⟨_, h⟩ := s.decodeCommit_cases <;> rw [h] <;> rfl
@[simp] theorem State.decodeCommit_out (s : State) : s.decodeCommit.out = s.out := by
  obtain ⟨e, h⟩ | ⟨_, h⟩ := s.decodeCommit_cases <;> rw [h] <;> rfl
@[simp] theorem State.decodeCommit_busy (s : State) : s.decodeCommit.status.busy = false := by
  obtain ⟨e, pv, h⟩ := s.decodeCommit_status; rw [h]
@[simp] theorem State.decodeCommit_noframe (s : State) : s.decodeCommit.status.noframe = s.status.noframe := by
  obtain ⟨e, pv, h⟩ := s.decodeCommit_status; rw [h]
@[simp] theorem State.decodeCommit_rejected (s : State) : s.decodeCommit.status.rejected = s.status.rejected := by
  obtain ⟨e, pv, h⟩ := s.decodeCommit_status; rw [h]

end Sys2Proof.Machine
end

section
/-!
SUPPORT. What a whole cycle can do, said once: `IdleEffect` names what the host's transaction makes of a cycle that starts with no
command running, `BusyEffect` what it makes of a running command's step (10_state.md R21, R45).
-/

namespace Sys2Proof.Machine

/-- The effect of the host's transaction `x` on `b`, the state after a step in which no command runs: what is accepted acts
(10_state.md R45). -/
inductive IdleEffect (x : HostTxn) (linkUp : Bool) (b : State) : State → Prop
  /-- no transaction, a write that is ignored, NOP, or ABORT -/
  | none : IdleEffect x linkUp b b
  | read (v : Word) : IdleEffect x linkUp b (b.drive v)
  | readPbuf (v : Word) : IdleEffect x linkUp b (b.advancePbuf.drive v)
  | readFbuf (v : Word) : IdleEffect x linkUp b (b.advanceFbuf.drive v)
  | write (addr : BitVec 8) (data : Word) (r : HostReg) (hx : x = .write addr data) (hr : regAt addr = some r) :
      IdleEffect x linkUp b (writeReg r data b)
  | conv (data : Word) : IdleEffect x linkUp b (b.setCcIn data)
  | parse (hd : Sys2Proof.decode x = .ok .parse) : IdleEffect x linkUp b (startParse b)
  | decode (hd : Sys2Proof.decode x = .ok .decode) : IdleEffect x linkUp b (startDecode b)
  | linkFetch (hd : Sys2Proof.decode x = .ok .linkFetch) : IdleEffect x linkUp b (startLinkFetch linkUp b)
  | rxFlush (hd : Sys2Proof.decode x = .ok .rxFlush) : IdleEffect x linkUp b (startRxFlush linkUp b)
  | clear (hd : Sys2Proof.decode x = .ok .clear) : IdleEffect x linkUp b b.acknowledge
  | illegal (op : BitVec 4) : IdleEffect x linkUp b (illegalCommand op b)

/-- The effect of the host's transaction `x` on `u`, the state after the step of the command that ran in `s`: only CC_IN, REJECTED
and ABORT act (10_state.md R45). -/
inductive BusyEffect (x : HostTxn) (s u : State) : State → Prop
  | none : BusyEffect x s u u
  | reject : BusyEffect x s u u.reject
  | read (v : Word) : BusyEffect x s u (u.drive v)
  | conv (data : Word) : BusyEffect x s u (u.setCcIn data)
  | cancel (hd : Sys2Proof.decode x = .ok .abort) (hu : u.status.busy = true) : BusyEffect x s u (State.cancel s u)

/-- `s` with the common start actions of a LINK_FETCH done, on which the start checks are made (42_link_framer.md R183). -/
def State.fetchStarted (s : State) : State :=
  { s.start 0x3 with status := { (s.start 0x3).status with frameValid := false } }

/-- A LINK_FETCH that fails a start check. -/
theorem startLinkFetch_some {linkUp : Bool} {s : State} {e : ErrCode}
    (h : s.fetchStarted.fetchStartError linkUp = some e) : startLinkFetch linkUp s = s.fetchStarted.raise e := by
  simp only [State.fetchStarted] at h
  simp only [startLinkFetch, h, State.fetchStarted]

/-- A LINK_FETCH that passes the start checks. -/
theorem startLinkFetch_none {linkUp : Bool} {s : State}
    (h : s.fetchStarted.fetchStartError linkUp = none) : startLinkFetch linkUp s = s.fetchStarted.prepareFetch := by
  simp only [State.fetchStarted] at h
  simp only [startLinkFetch, h, State.fetchStarted]

/-- A write of a register that the host cannot write does nothing (10_state.md R26). -/
theorem writeReg_readOnly {r : HostReg} (data : Word) (s : State) (h : writable r = false) : writeReg r data s = s := by
  cases r <;> simp [writable] at h <;> rfl

/-- A write of a read-only register does nothing, whether or not a command runs (10_state.md R26, R45). -/
theorem hostWrite_readOnly {r : HostReg} (busy : Bool) (data : Word) (s : State) (h : writable r = false) :
    hostWrite busy r data s = s := by
  simp [hostWrite, h, writeReg_readOnly]

/-- The access of a cycle that starts with no command running. -/
theorem hostAccess_idle {s b : State} (linkUp : Bool) (x : HostTxn) (h : s.status.busy = false) :
    IdleEffect x linkUp b (hostAccess linkUp x s b) := by
  unfold hostAccess
  split
  · exact .none
  · split
    · next r _ =>
      obtain hr | ⟨_, _, hr⟩ | ⟨_, _, hr⟩ := hostRead_cases linkUp r s b <;> rw [hr]
      · exact .read _
      · exact .readPbuf _
      · exact .readFbuf _
    · exact .read _
  · split
    · next addr data _ r hr =>
      rw [h, hostWrite_idle]
      exact .write addr data r rfl hr
    · exact .none

/-- The access of a cycle that starts with a command running. -/
theorem hostAccess_busy {s u : State} (linkUp : Bool) (x : HostTxn) (h : s.status.busy = true) :
    BusyEffect x s u (hostAccess linkUp x s u) := by
  unfold hostAccess
  split
  · exact .none
  · split
    · next r _ =>
      obtain hr | ⟨hb, _⟩ | ⟨hb, _⟩ := hostRead_cases linkUp r s u
      · rw [hr]; exact .read _
      · rw [h] at hb; cases hb
      · rw [h] at hb; cases hb
    · exact .read _
  · split
    · next data _ r _ =>
      rw [h]
      cases hw : writable r with
      | false => rw [hostWrite_readOnly _ _ _ hw]; exact .none
      | true =>
        by_cases hc : r = .ccIn
        · subst hc; exact .conv data
        · rw [hostWrite_busy data u hw hc]; exact .reject
    · exact .none

/-- The effect of an accepted command at the edge of its cycle, from the cycle's `link_up` (44_control_commands.md R250 to R255).
ABORT and CONV, which do not go through R45's refusal, have none here. -/
def commandEffect : Instr → Bool → State → State
  | .parse => fun _ b => startParse b
  | .decode => fun _ b => startDecode b
  | .linkFetch => startLinkFetch
  | .rxFlush => startRxFlush
  | .clear => fun _ b => b.acknowledge
  | .rsv7 => fun _ b => illegalCommand 0x7 b
  | .rsv8 => fun _ b => illegalCommand 0x8 b
  | .rsv9 => fun _ b => illegalCommand 0x9 b
  | .rsvA => fun _ b => illegalCommand 0xA b
  | .rsvB => fun _ b => illegalCommand 0xB b
  | .rsvC => fun _ b => illegalCommand 0xC b
  | .rsvD => fun _ b => illegalCommand 0xD b
  | .rsvE => fun _ b => illegalCommand 0xE b
  | .rsvF => fun _ b => illegalCommand 0xF b
  | .nop | .abort | .conv _ => fun _ b => b

/-- Every instruction but ABORT and CONV is a command's cycle. -/
theorem exec_command {i : Instr} (ha : i ≠ .abort) (hc : ∀ data, i ≠ .conv data) (s : State) :
    exec i s = commandCycle (commandEffect i) s := by
  cases i with
  | abort => exact absurd rfl ha
  | conv data => exact absurd rfl (hc data)
  | _ => rfl

/-- A command's effect is one of those of an idle cycle's transaction. -/
theorem commandEffect_idle {x : HostTxn} {i : Instr} (linkUp : Bool) (b : State) (hd : Sys2Proof.decode x = .ok i) :
    IdleEffect x linkUp b (commandEffect i linkUp b) := by
  cases i with
  | nop | abort | conv => exact .none
  | parse => exact .parse hd
  | decode => exact .decode hd
  | linkFetch => exact .linkFetch hd
  | rxFlush => exact .rxFlush hd
  | clear => exact .clear hd
  | rsv7 | rsv8 | rsv9 | rsvA | rsvB | rsvC | rsvD | rsvE | rsvF => exact .illegal _

/-- A cycle without reset that starts with no command running: the host's transaction acts on the start state. -/
theorem step_idle_effect {s t : State} (h : step s = .next t) (hr : s.sampled.rst = false) (hb : s.status.busy = false) :
    IdleEffect s.sampled.host s.sampled.env.linkUp s.beginCycle t := by
  obtain ⟨h', _⟩ | ⟨_, i, hd, he⟩ | ⟨_, n, _, he⟩ := step_next h
  · rw [hr] at h'; cases h'
  · by_cases ha : i = .abort
    · subst ha
      rw [exec_abort, cycleWith_idle hb] at he
      cases he
      rw [hb]; exact .none
    by_cases hc : ∃ data, i = .conv data
    · obtain ⟨data, rfl⟩ := hc
      rw [exec_conv, cycleWith_idle hb] at he
      cases he
      exact .conv data
    rw [exec_command ha (not_exists.mp hc), commandCycle_idle _ hb] at he
    cases he
    exact commandEffect_idle _ _ hd
  · obtain ⟨_, rfl⟩ := accessCycle_next he
    rw [State.unitStep_idle (s := s.beginCycle) _ hb]
    exact hostAccess_idle _ _ hb

/-- A cycle without reset that starts with a command running: the command takes its step, then the host's transaction acts. -/
theorem step_busy_effect {s t : State} (h : step s = .next t) (hr : s.sampled.rst = false) (hb : s.status.busy = true) :
    BusyEffect s.sampled.host s (s.beginCycle.unitStep s.sampled.env) t := by
  obtain ⟨h', _⟩ | ⟨_, i, hd, he⟩ | ⟨_, n, _, he⟩ := step_next h
  · rw [hr] at h'; cases h'
  · by_cases ha : i = .abort
    · subst ha
      rw [exec_abort] at he
      obtain ⟨_, rfl⟩ := cycleWith_next he
      split
      next hc => exact .cancel hd (by simpa [hb] using hc)
      next => exact .none
    by_cases hc : ∃ data, i = .conv data
    · obtain ⟨data, rfl⟩ := hc
      rw [exec_conv] at he
      obtain ⟨_, rfl⟩ := cycleWith_next he
      exact .conv data
    rw [exec_command ha (not_exists.mp hc)] at he
    obtain ⟨_, rfl⟩ | ⟨hf, _⟩ := commandCycle_next he
    · exact .reject
    · rw [hb] at hf; cases hf
  · obtain ⟨_, rfl⟩ := accessCycle_next he
    exact hostAccess_busy _ _ hb

end Sys2Proof.Machine
end

section
/-!
SUPPORT. What stays while a command runs on, and what is left when it ends (10_state.md R45, R82, 60_exceptions.md R273, R274).
-/

namespace Sys2Proof.Machine

/-- `u` is `s` one cycle on, with the same command running: STATUS but LF_STATE, the operands and FBUF are as they were, and the
active unit is the same (10_state.md R45, R82). -/
structure State.RunsOn (s u : State) : Prop where
  status : u.status = { s.status with lfState := u.status.lfState }
  regs : u.regs =
    { s.regs with
      pktReceived := u.regs.pktReceived, retryCount := u.regs.retryCount, elapsedMs := u.regs.elapsedMs }
  fbuf : u.fbuf = s.fbuf
  fetch : isFetchState u.status.lfState = isFetchState s.status.lfState
  idle : u.status.lfState = .idle ↔ s.status.lfState = .idle
  res : u.int.res = s.int.res

/-- A LINK_FETCH that goes on. -/
theorem FetchMove.runsOn {env : EnvIn} {s u : State} (h : FetchMove env s u) (hu : u.status.busy = true) :
    s.RunsOn u := by
  cases h with
  | wordByte w hw => exact ⟨rfl, rfl, rfl, rfl, .rfl, rfl⟩
  | readySent hl => exact ⟨rfl, rfl, rfl, by rw [hl]; rfl, by simp [hl], rfl⟩
  | continueSent hl =>
    by_cases hm : s.morePackets = true <;>
      exact ⟨rfl, rfl, rfl, by simp [hl, hm, isFetchState], by simp [hl, hm], rfl⟩
  | retrySent hl => exact ⟨rfl, rfl, rfl, by rw [hl]; rfl, by simp [hl], rfl⟩
  | endSent => cases hu
  | waits => exact ⟨rfl, rfl, rfl, rfl, .rfl, rfl⟩
  | timesOut => simp at hu
  | frameAnnounced hl => exact ⟨rfl, rfl, rfl, by rw [hl]; rfl, by simp [hl], rfl⟩
  | noFrame => cases hu
  | discards => exact ⟨rfl, rfl, rfl, rfl, .rfl, rfl⟩
  | discardsLast b rest hl => exact ⟨rfl, rfl, rfl, by rw [hl]; rfl, by simp [hl], rfl⟩
  | opens hl => exact ⟨rfl, rfl, rfl, by rw [hl]; rfl, by simp [hl], rfl⟩
  | fills hl =>
    refine ⟨by simp, by simp, by simp, ?_, ?_, by simp⟩ <;> rw [State.fullAttempt_status] <;> dsimp only <;> split <;>
      simp [hl, isFetchState]
  | pulses hl =>
    refine ⟨by simp, by simp, by simp, ?_, ?_, by simp⟩ <;> rw [State.windowTick_status] <;> dsimp only <;> split <;>
      simp [hl, isFetchState]
  | takes hl => exact ⟨by simp, by simp, by simp, by simp, by simp, by simp⟩

/-- A pulse that is counted changes ELAPSED_MS alone. -/
theorem State.RunsOn.countElapsed {s u : State} (h : s.RunsOn u) (tickMs : Bool) (st : LfState) :
    s.RunsOn (u.countElapsed tickMs st) := by
  obtain ⟨hst, hregs, hfbuf, hfetch, hidle, hres⟩ := h
  refine ⟨by simpa using hst, ?_, by simpa using hfbuf, by simpa using hfetch, by simpa using hidle, by simpa using hres⟩
  rw [State.countElapsed_regs]
  split
  · rw [hregs]
  · exact hregs

/-- A command that runs before and after GPCL's step. -/
theorem UnitMove.runsOn {env : EnvIn} {s u : State} (h : UnitMove env s u) (hu : u.status.busy = true) :
    s.RunsOn u := by
  cases h with
  | stays | counts | flushes => exact ⟨rfl, rfl, rfl, rfl, .rfl, rfl⟩
  | parses => simp at hu
  | decodes => simp at hu
  | flushed | flushDown => cases hu
  | linkDown => simp at hu
  | fetches v hf hlu hm => exact (hm.runsOn (by simpa using hu)).countElapsed _ _

end Sys2Proof.Machine
end

section
/-!
SUPPORT. The invariant (O57, O58): it holds after reset, and every step keeps it. The link engine's part is cut in two: the
configuration, which no move of a transfer changes, and the counters, which are given state by state.
-/

namespace Sys2Proof.Machine

/-! ### Memory -/

theorem State.memoryOk_congr {s t : State} (hp : t.pbuf = s.pbuf) (hf : t.fbuf = s.fbuf) (h : s.MemoryOk) :
    t.MemoryOk := by
  unfold State.MemoryOk
  rw [hp, hf]
  exact h

theorem State.failTransfer_memoryOk (e : ErrCode) {s : State} (h : s.MemoryOk) : (s.failTransfer e).MemoryOk :=
  State.loseFetched_memoryOk h

theorem State.takeByte_memoryOk {s : State} (h : s.MemoryOk) : s.takeByte.MemoryOk := by
  cases hq : s.rxQueue with
  | nil => rw [State.takeByte_nil hq]; exact h
  | cons b rest => rw [State.takeByte_cons hq]; exact State.pbufWrite_memoryOk _ _ h

theorem State.parseCommit_memoryOk {s : State} (h : s.MemoryOk) : s.parseCommit.MemoryOk := by
  obtain ⟨e, c, v, hc⟩ | hc := s.parseCommit_cases <;> rw [hc] <;> exact h

theorem State.decodeCommit_memoryOk {s : State} (h : s.MemoryOk) : s.decodeCommit.MemoryOk := by
  obtain ⟨e, hc⟩ | ⟨hn, hc⟩ := s.decodeCommit_cases <;> rw [hc]
  · exact h
  · exact State.convertPayload_memoryOk hn h

theorem FetchMove.memoryOk {env : EnvIn} {s u : State} (h : FetchMove env s u) (hs : s.MemoryOk) : u.MemoryOk := by
  cases h with
  | timesOut => exact State.failTransfer_memoryOk _ hs
  | fills => exact State.memoryOk_congr (by simp) (by simp) (State.takeByte_memoryOk hs)
  | pulses => exact State.memoryOk_congr (by simp) (by simp) (State.takeByte_memoryOk hs)
  | takes => exact State.takeByte_memoryOk hs
  | wordByte | readySent | continueSent | retrySent | endSent | waits | frameAnnounced | noFrame | discards | discardsLast
  | opens => exact hs

/-- GPCL's step keeps both memories canonical. -/
theorem UnitMove.memoryOk {env : EnvIn} {s u : State} (h : UnitMove env s u) (hs : s.MemoryOk) : u.MemoryOk := by
  cases h with
  | parses => exact State.parseCommit_memoryOk hs
  | decodes => exact State.decodeCommit_memoryOk hs
  | linkDown => exact State.failTransfer_memoryOk _ hs
  | fetches v hf hu hm => exact State.memoryOk_congr (by simp) (by simp) (hm.memoryOk hs)
  | stays | counts | flushes | flushed | flushDown => exact hs

/-! ### STATUS -/

/-- NOFRAME is set by a LINK_FETCH alone, and it then ends without an error (42_link_framer.md R188). -/
theorem FetchMove.noframe {env : EnvIn} {s u : State} (h : FetchMove env s u) (hn : s.status.noframe = false)
    (hu : u.status.noframe = true) : u.status.err = false ∧ u.status.lastCmd = s.status.lastCmd := by
  cases h with
  | noFrame => exact ⟨rfl, rfl⟩
  | wordByte | readySent | continueSent | retrySent | endSent | waits | timesOut | frameAnnounced | discards
  | discardsLast | opens | fills | pulses | takes => simp [hn] at hu

theorem UnitMove.noframe {env : EnvIn} {s u : State} (h : UnitMove env s u) (hn : s.status.noframe = false)
    (hu : u.status.noframe = true) :
    isFetchState s.status.lfState = true ∧ u.status.err = false ∧ u.status.lastCmd = s.status.lastCmd := by
  cases h with
  | parses => rw [State.parseCommit_noframe, hn] at hu; cases hu
  | decodes => rw [State.decodeCommit_noframe, hn] at hu; cases hu
  | fetches v hf _ hm => exact ⟨hf, by simpa using hm.noframe hn (by simpa using hu)⟩
  | stays | counts | flushes | flushed | flushDown | linkDown => simp [hn] at hu

/-- STATUS of a state that meets the invariant, with a command running. -/
theorem State.StatusOk.running {s : State} (h : s.StatusOk) (hb : s.status.busy = true) :
    s.status.done = false ∧ s.status.err = false ∧ s.status.errcode = none ∧ s.status.noframe = false := by
  obtain ⟨herr, hdone, hbusy, _, _⟩ := h
  obtain ⟨hd, hn⟩ := hbusy hb
  have he : s.status.err = false := by
    cases hx : s.status.err with
    | false => rfl
    | true => rw [hdone hx] at hd; cases hd
  rw [he] at herr
  exact ⟨hd, he, Option.isSome_eq_false_iff.mp herr.symm |> Option.isNone_iff_eq_none.mp, hn⟩

/-- STATUS of a running command agrees with itself. -/
theorem State.statusOk_of_running {s : State} (hb : s.status.busy = true) (hd : s.status.done = false)
    (he : s.status.err = false) (hc : s.status.errcode = none) (hn : s.status.noframe = false) : s.StatusOk := by
  simp [State.StatusOk, hb, hd, he, hc, hn]

/-- GPCL's step of a running command keeps STATUS in agreement with itself. -/
theorem UnitMove.statusOk {env : EnvIn} {s u : State} (h : UnitMove env s u) (hd : u.RunsOrDone) (hs : s.StatusOk)
    (hb : s.status.busy = true) (hf : isFetchState s.status.lfState = true → s.status.lastCmd = 3) : u.StatusOk := by
  obtain ⟨h1, h2, h3, h4⟩ := hs.running hb
  cases hu : u.status.busy with
  | true =>
    have hst := (h.runsOn hu).status
    apply State.statusOk_of_running <;> rw [hst] <;> assumption
  | false =>
    obtain hr | ⟨hdone, herr, hidle, hint⟩ := hd
    · rw [hu] at hr; cases hr
    · refine ⟨herr, fun _ => hdone, fun hr => ?_, fun hn => ?_, fun _ => ⟨hidle, hint⟩⟩
      · rw [hu] at hr; cases hr
      · obtain ⟨hfetch, he, hl⟩ := h.noframe h4 hn
        exact ⟨hdone, he, hl.trans (hf hfetch)⟩

/-! ### The running unit -/

/-- The transfer's configuration passed the start checks of 42_link_framer.md R183. -/
def State.FetchConfig (s : State) : Prop :=
  s.status.lastCmd = 3 ∧ s.status.frameValid = false ∧
  s.regs.packetCount.toNat * s.regs.packetSize.toNat = s.payloadBytes ∧
  0 < s.payloadBytes ∧ s.payloadBytes ≤ Config.pbufBytes ∧ 0 < s.regs.readWindowMs.toNat

/-- What the engine's counters satisfy in each of its states (42_link_framer.md R186 to R199). -/
def State.FetchCounters (s : State) : Prop :=
  s.regs.pktReceived.toNat ≤ s.regs.packetCount.toNat ∧
  s.int.rdn ≤ s.regs.packetSize.toNat ∧ s.int.rdw ≤ s.regs.readWindowMs.toNat ∧ s.int.ann ≤ 2 ∧
  match s.status.lfState with
  | .txReady | .txRetry => s.int.txi < 6 ∧ s.regs.pktReceived.toNat < s.regs.packetCount.toNat
  | .txContinue => s.int.txi < 9
  | .txEnd => s.int.txi < 4 ∧ s.regs.pktReceived.toNat = s.regs.packetCount.toNat
  | .announce => s.int.txi = 0 ∧ s.int.ann < 2 ∧ s.regs.pktReceived.toNat < s.regs.packetCount.toNat
  | .read =>
    s.int.txi = 0 ∧ s.int.rdn < s.regs.packetSize.toNat ∧ s.int.rdw < s.regs.readWindowMs.toNat ∧
      s.regs.pktReceived.toNat < s.regs.packetCount.toNat
  | .poll | .check | .idle | .flush => s.int.txi = 0 ∧ s.regs.pktReceived.toNat < s.regs.packetCount.toNat

/-- A running LINK_FETCH is legal exactly if its configuration and its counters are. -/
theorem State.fetchOk_iff (s : State) : s.FetchOk ↔ s.FetchConfig ∧ s.FetchCounters := by
  unfold State.FetchOk State.FetchConfig State.FetchCounters
  cases hl : s.status.lfState <;>
    simp [controlWord, readyWord, continueWord, retryWord, endWord, BitVec.toNat_eq] <;> grind

theorem State.RunsOn.fetchConfig {s u : State} (h : s.RunsOn u) (hc : s.FetchConfig) : u.FetchConfig := by
  unfold State.FetchConfig State.payloadBytes State.pixelCount
  rw [h.status, h.regs]
  exact hc

/-- The packets of a legal configuration are not empty. -/
theorem State.FetchConfig.packetSize_pos {s : State} (h : s.FetchConfig) : 0 < s.regs.packetSize.toNat := by
  obtain ⟨_, _, hmul, hpos, _, _⟩ := h
  exact Nat.pos_of_mul_pos_left (hmul ▸ hpos)

/-- After a full attempt the engine sends `continue`, or `end` if no packet is missing (42_link_framer.md R197). -/
theorem State.fullAttempt_lfState (s : State) :
    s.fullAttempt.status.lfState = .txContinue ∨
    (s.fullAttempt.status.lfState = .txEnd ∧
      ¬ (s.regs.pktReceived + 1).toNat < s.regs.packetCount.toNat) := by
  rw [State.fullAttempt_status]
  dsimp only
  split
  next => exact .inl rfl
  next h => exact .inr ⟨rfl, fun hm => h (.inl hm)⟩

/-- After a pulse the engine sends `retry`, or the window is open still (42_link_framer.md R198). -/
theorem State.windowTick_lfState (s : State) :
    (s.windowTick.status.lfState = .txRetry ∧ s.windowTick.int.txi = 0) ∨
    (s.windowTick.status.lfState = s.status.lfState ∧ s.windowTick.int.txi = s.int.txi ∧
      s.int.rdw + 1 < s.regs.readWindowMs.toNat) := by
  rw [State.windowTick_status, State.windowTick_int]
  dsimp only
  split
  next => exact .inl ⟨rfl, rfl⟩
  next h => exact .inr ⟨rfl, rfl, by omega⟩

/-- A move of a transfer that goes on keeps the counters in range. -/
theorem FetchMove.counters {env : EnvIn} {s u : State} (h : FetchMove env s u) (hu : u.status.busy = true)
    (hcfg : s.FetchConfig) (hc : s.FetchCounters) : u.FetchCounters := by
  have hmax := s.regs.packetCount.isLt
  have hrdn := s.takeByte_rdn_le
  cases h with
  | wordByte w hw hr hi =>
    cases hl : s.status.lfState <;> simp only [hl, controlWord, Option.some.injEq, reduceCtorEq] at hw <;> subst hw <;>
      simp [State.FetchCounters, hl, readyWord, continueWord, retryWord, endWord] at hc hi ⊢ <;> omega
  | readySent hl => simp [State.FetchCounters, hl] at hc ⊢; omega
  | continueSent hl =>
    by_cases hm : s.regs.pktReceived.toNat < s.regs.packetCount.toNat <;>
      simp [State.FetchCounters, State.morePackets, hl, hm] at hc ⊢ <;> omega
  | retrySent hl => simp [State.FetchCounters, hl] at hc ⊢; omega
  | endSent => cases hu
  | waits => exact hc
  | timesOut => simp at hu
  | frameAnnounced hl => simp [State.FetchCounters, hl] at hc ⊢; omega
  | noFrame => cases hu
  | discards b rest hl hq hn => simp [State.FetchCounters, hl] at hc ⊢; omega
  | discardsLast b rest hl => simp [State.FetchCounters, hl] at hc ⊢; omega
  | opens hl =>
    have hsize := hcfg.packetSize_pos
    obtain ⟨_, _, _, _, _, hwindow⟩ := hcfg
    simp [State.FetchCounters, hl] at hc ⊢; omega
  | fills hl hf =>
    obtain h | ⟨h, hend⟩ := s.takeByte.fullAttempt_lfState <;> unfold State.FetchCounters at hc ⊢ <;> rw [h] <;>
      simp [hl] at * <;> omega
  | pulses hl hf =>
    obtain ⟨h, htxi⟩ | ⟨h, htxi, hopen⟩ := s.takeByte.windowTick_lfState <;> unfold State.FetchCounters at hc ⊢ <;>
      rw [h, htxi] <;> simp [hl] at * <;> omega
  | takes hl hf => simp [State.FetchCounters, hl] at hc hf hrdn ⊢; omega

end Sys2Proof.Machine
end

section
/-!
SUPPORT. The invariant, assembled: GPCL's step, the starts of the four commands, the host's other accesses, and reset.
-/

namespace Sys2Proof.Machine

/-! ### GPCL's step -/

/-- A running command of LINK_FETCH's states is legal as soon as its transfer is. -/
theorem State.runOk_of_fetchOk {s : State} (hf : isFetchState s.status.lfState = true) (h : s.FetchOk) : s.RunOk := by
  refine fun _ => ⟨fun hl => ?_, fun hl => ?_, fun _ => h, fun hn => ?_⟩
  · rw [hl] at hf; cases hf
  · rw [hl] at hf; cases hf
  · rw [hf] at hn; cases hn

/-- A state with no command running has no running unit to be legal. -/
theorem State.runOk_of_idle {s : State} (h : s.status.busy = false) : s.RunOk := by
  intro hb
  rw [h] at hb
  cases hb

/-- The counting of a pulse touches no counter of the transfer and no operand. -/
theorem State.fetchOk_countElapsed (tickMs : Bool) (st : LfState) {s : State} (h : s.FetchOk) :
    (s.countElapsed tickMs st).FetchOk := by
  unfold State.countElapsed
  split <;> exact h

/-- GPCL's step keeps the running unit in a legal state. -/
theorem UnitMove.runOk {env : EnvIn} {s u : State} (h : UnitMove env s u) (hb : s.status.busy = true) (hs : s.RunOk) :
    u.RunOk := by
  cases h with
  | stays => exact hs
  | counts hl _ hn =>
    obtain ⟨hunit, _, _, hrest⟩ := hs hb
    obtain ⟨_, hres⟩ := hunit hl
    have hlat : 0 < s.int.lat - 1 := by omega
    refine fun _ => ⟨fun _ => ⟨hlat, hres⟩, fun hflush => ?_, fun hfetch => ?_, hrest⟩
    · rw [hl] at hflush; cases hflush
    · rw [hl] at hfetch; cases hfetch
  | parses => exact State.runOk_of_idle s.parseCommit_busy
  | decodes => exact State.runOk_of_idle s.decodeCommit_busy
  | flushes => exact hs
  | flushed => exact State.runOk_of_idle rfl
  | flushDown => exact State.runOk_of_idle rfl
  | linkDown => exact State.runOk_of_idle (by simp)
  | fetches v hf _ hm =>
    cases hv : v.status.busy with
    | false => exact State.runOk_of_idle (by simpa using hv)
    | true =>
      obtain ⟨_, _, hfetch, _⟩ := hs hb
      obtain ⟨hconfig, hcount⟩ := (State.fetchOk_iff s).mp (hfetch hf)
      have hruns := hm.runsOn hv
      have hok : v.FetchOk := (State.fetchOk_iff v).mpr ⟨hruns.fetchConfig hconfig, hm.counters hv hconfig hcount⟩
      exact State.runOk_of_fetchOk (by simpa using hruns.fetch.trans hf) (State.fetchOk_countElapsed _ _ hok)

/-- GPCL's step of a running command keeps the invariant. -/
theorem State.unitStep_inv (env : EnvIn) {s : State} (hb : s.status.busy = true) (h : s.Inv) : (s.unitStep env).Inv := by
  obtain ⟨hmem, hst, hrun⟩ := h
  have hmove := State.unitStep_move env hb
  have hlast : isFetchState s.status.lfState = true → s.status.lastCmd = 3 := by
    intro hf
    obtain ⟨_, _, hfetch, _⟩ := hrun hb
    exact (hfetch hf).1
  exact ⟨hmove.memoryOk hmem, hmove.statusOk (State.runsOrDone_unitStep env hb) hst hb hlast, hmove.runOk hb hrun⟩

/-! ### What the invariant does not read -/

/-- The invariant reads neither REJECTED, nor CC_IN, nor the channel, the ports and the model's own fields. -/
theorem State.inv_congr {s t : State} (hst : t.status = { s.status with rejected := t.status.rejected })
    (hregs : t.regs = { s.regs with ccIn := t.regs.ccIn }) (hint : t.int = s.int) (hp : t.pbuf = s.pbuf)
    (hf : t.fbuf = s.fbuf) (h : s.Inv) : t.Inv := by
  obtain ⟨st, regs, int, pbuf, fbuf, rx, tx, out, inputs, cycle, draws⟩ := t
  dsimp only at hst hregs hint hp hf
  rw [hst, hregs, hint, hp, hf]
  exact h

/-- The invariant of a state with no command running. -/
theorem State.inv_of_idle {s : State} (hb : s.status.busy = false) (hm : s.MemoryOk) (hs : s.StatusOk) : s.Inv :=
  ⟨hm, hs, State.runOk_of_idle hb⟩

/-- A completion keeps the invariant: NOFRAME may stand only after a LINK_FETCH that ended without error. -/
theorem State.inv_complete {e : Option ErrCode} {s : State} (hm : s.MemoryOk)
    (hn : s.status.noframe = true → e = none ∧ s.status.lastCmd = 3) : (s.complete e).Inv := by
  refine State.inv_of_idle rfl hm ⟨rfl, fun _ => rfl, (nomatch ·), fun hf => ?_, fun _ => ⟨rfl, rfl⟩⟩
  obtain ⟨he, hl⟩ := hn hf
  exact ⟨rfl, by simp [he], hl⟩

/-! ### The start of a cycle and the host's transaction -/

theorem State.beginCycle_inv {s : State} (h : s.Inv) : s.beginCycle.Inv :=
  State.inv_congr rfl rfl rfl rfl rfl h

/-- The host's transaction in a running command's cycle keeps the invariant. -/
theorem BusyEffect.inv {x : HostTxn} {s u t : State} (h : BusyEffect x s u t) (hu : u.Inv) : t.Inv := by
  cases h with
  | none => exact hu
  | reject => exact State.inv_congr rfl rfl rfl rfl rfl hu
  | read => exact State.inv_congr rfl rfl rfl rfl rfl hu
  | conv => exact State.inv_congr rfl rfl rfl rfl rfl hu
  | cancel _ hb =>
    obtain ⟨hmem, hst, _⟩ := hu
    obtain ⟨_, _, _, hn⟩ := hst.running hb
    refine State.inv_complete (State.cutMemory_memoryOk hmem) fun hf => ?_
    rw [State.dropPulse_status, State.cutMemory_status, hn] at hf
    cases hf

/-- The accepted write of a register keeps the invariant when no command runs. -/
theorem writeReg_inv (r : HostReg) (data : Word) {s : State} (hb : s.status.busy = false) (h : s.Inv) :
    (writeReg r data s).Inv := by
  obtain ⟨hm, hs, _⟩ := h
  cases r with
  | pbufData =>
    refine State.inv_of_idle ?_ (State.pbufWrite_memoryOk _ _ hm) ?_
    · simpa [writeReg, State.pbufDataWrite] using hb
    · simpa [writeReg, State.pbufDataWrite, State.StatusOk] using hs
  | _ => exact State.inv_of_idle hb hm hs

theorem startParse_inv {s : State} (hm : s.MemoryOk) (hs : s.StatusOk) (hb : s.status.busy = false) :
    (startParse s).Inv := by
  obtain ⟨_, _, _, _, hidle⟩ := hs
  obtain ⟨hl, hint⟩ := hidle hb
  refine ⟨hm, State.statusOk_of_running rfl rfl rfl rfl rfl, fun _ =>
    ⟨fun _ => ⟨Nat.succ_pos _, .inl ⟨rfl, rfl, rfl⟩⟩, ?_, ?_, ?_⟩⟩
  all_goals simp [startParse, hl, hint, Internal.zero, isFetchState]

theorem startDecode_inv {s : State} (hm : s.MemoryOk) (hs : s.StatusOk) (hb : s.status.busy = false) :
    (startDecode s).Inv := by
  obtain ⟨_, _, _, _, hidle⟩ := hs
  obtain ⟨hl, hint⟩ := hidle hb
  refine ⟨hm, State.statusOk_of_running rfl rfl rfl rfl rfl, fun _ =>
    ⟨fun _ => ⟨Nat.succ_pos _, .inr ⟨rfl, rfl, rfl⟩⟩, ?_, ?_, ?_⟩⟩
  all_goals simp [startDecode, hl, hint, Internal.zero, isFetchState]

/-- What the start checks of LINK_FETCH establish (42_link_framer.md R183). -/
theorem State.fetchStartError_none {linkUp : Bool} {s : State} (h : s.fetchStartError linkUp = none) :
    0 < s.regs.width.toNat ∧ 0 < s.regs.height.toNat ∧ 0 < s.regs.packetCount.toNat ∧
      s.payloadBytes % s.regs.packetCount.toNat = 0 ∧ s.payloadBytes ≤ Config.pbufBytes ∧
      0 < s.regs.readWindowMs.toNat := by
  unfold State.fetchStartError at h
  split_ifs at h with hu hg hc
  have pos : ∀ v : Word, v ≠ 0 → 0 < v.toNat := fun v hv => Nat.pos_of_ne_zero (BitVec.toNat_ne_iff_ne.mpr hv)
  simp only [not_or, not_lt, not_not] at hg hc
  obtain ⟨hw, hh⟩ := hg
  obtain ⟨hn, hdiv, hmax, hwin⟩ := hc
  exact ⟨pos _ hw, pos _ hh, pos _ hn, hdiv, hmax, pos _ hwin⟩

/-- The preparation of a transfer that passed the start checks makes its configuration legal (R183, R184). -/
theorem State.prepareFetch_fetchConfig {s : State} {linkUp : Bool} (hc : s.status.lastCmd = 3)
    (hv : s.status.frameValid = false) (h : s.fetchStartError linkUp = none) : s.prepareFetch.FetchConfig := by
  obtain ⟨hw, hh, hn, hdiv, hmax, hwin⟩ := State.fetchStartError_none h
  have hpos : 0 < s.payloadBytes := Nat.mul_pos (Nat.mul_pos hw hh) (by decide)
  have hsize : s.payloadBytes / s.regs.packetCount.toNat < 2 ^ 32 :=
    lt_of_le_of_lt (Nat.div_le_self _ _) (lt_of_le_of_lt hmax (by decide))
  refine ⟨hc, hv, ?_, hpos, hmax, hwin⟩
  calc s.regs.packetCount.toNat * (BitVec.ofNat 32 (s.payloadBytes / s.regs.packetCount.toNat)).toNat
      = s.regs.packetCount.toNat * (s.payloadBytes / s.regs.packetCount.toNat) := by
        rw [BitVec.toNat_ofNat, Nat.mod_eq_of_lt hsize]
    _ = s.payloadBytes := Nat.mul_div_cancel' (Nat.dvd_of_mod_eq_zero hdiv)

theorem startLinkFetch_inv (linkUp : Bool) {s : State} (hm : s.MemoryOk) (hs : s.StatusOk)
    (hb : s.status.busy = false) : (startLinkFetch linkUp s).Inv := by
  obtain ⟨_, _, _, _, hidle⟩ := hs
  obtain ⟨hl, hint⟩ := hidle hb
  cases h : s.fetchStarted.fetchStartError linkUp with
  | some e =>
    rw [startLinkFetch_some h]
    exact State.inv_complete hm (fun hn => by cases hn)
  | none =>
    rw [startLinkFetch_none h]
    have hconfig := State.prepareFetch_fetchConfig rfl rfl h
    obtain ⟨_, _, hn, _⟩ := State.fetchStartError_none h
    refine ⟨hm, State.statusOk_of_running rfl rfl rfl rfl rfl, State.runOk_of_fetchOk rfl ?_⟩
    refine (State.fetchOk_iff _).mpr ⟨hconfig, ?_⟩
    simpa [State.FetchCounters, State.fetchStarted, hint, Internal.zero] using hn

theorem startRxFlush_inv (linkUp : Bool) {s : State} (hm : s.MemoryOk) (hs : s.StatusOk)
    (hb : s.status.busy = false) : (startRxFlush linkUp s).Inv := by
  obtain ⟨_, _, _, _, hidle⟩ := hs
  obtain ⟨hl, hint⟩ := hidle hb
  unfold startRxFlush
  dsimp only
  split
  · refine ⟨hm, State.statusOk_of_running rfl rfl rfl rfl rfl, fun _ => ⟨?_, ?_, ?_, ?_⟩⟩
    all_goals simp [hint, Internal.zero, isFetchState]
  · exact State.inv_complete hm (fun hn => by cases hn)

/-- CLEAR keeps the invariant (44_control_commands.md R253). -/
theorem State.acknowledge_inv {s : State} (hb : s.status.busy = false) (h : s.Inv) : s.acknowledge.Inv := by
  obtain ⟨hm, ⟨_, _, _, _, hidle⟩, _⟩ := h
  refine State.inv_of_idle hb hm ⟨rfl, ?_, ?_, ?_, fun _ => hidle hb⟩ <;> simp [hb]

/-- The host's transaction in a cycle that starts with no command running keeps the invariant. -/
theorem IdleEffect.inv {x : HostTxn} {linkUp : Bool} {b t : State} (h : IdleEffect x linkUp b t)
    (hb : b.status.busy = false) (hi : b.Inv) : t.Inv := by
  have ⟨hm, hs, _⟩ := hi
  cases h with
  | none | read | readPbuf | readFbuf | conv => exact State.inv_of_idle hb hm hs
  | write addr data r => exact writeReg_inv r data hb hi
  | parse => exact startParse_inv hm hs hb
  | decode => exact startDecode_inv hm hs hb
  | linkFetch => exact startLinkFetch_inv linkUp hm hs hb
  | rxFlush => exact startRxFlush_inv linkUp hm hs hb
  | clear => exact State.acknowledge_inv hb hi
  | illegal op => exact State.inv_complete hm (fun hn => by cases hn)

/-! ### Reset -/

/-- Any state with STATUS and the internal elements of reset and canonical memories meets the invariant. -/
theorem State.inv_of_reset {s : State} (hst : s.status = Status.reset) (hint : s.int = Internal.zero)
    (hm : s.MemoryOk) : s.Inv := by
  refine State.inv_of_idle (by rw [hst]; rfl) hm ?_
  simp [State.StatusOk, hst, hint, Status.reset]

/-- Settles O57: nothing is written, no command runs and every internal element is 0. -/
theorem resetMeetsInvariant : Obligations.ResetMeetsInvariant :=
  State.inv_of_reset rfl rfl State.reset_memoryOk

/-- Settles O58, by the three kinds of cycle: reset, one that starts with no command running, and one that starts with a command
running, whose unit makes one of its moves before the host's transaction acts. -/
theorem stepKeepsInvariant : Obligations.StepKeepsInvariant := by
  intro s t h hstep
  have hbegin := State.beginCycle_inv h
  cases hr : s.sampled.rst with
  | true =>
    rw [step_reset hr] at hstep
    cases hstep
    exact State.inv_of_reset rfl rfl (State.cutMemory_memoryOk hbegin.1)
  | false =>
    cases hb : s.status.busy with
    | false => exact (step_idle_effect hstep hr hb).inv hb hbegin
    | true => exact (step_busy_effect hstep hr hb).inv (State.unitStep_inv _ hb hbegin)

end Sys2Proof.Machine
end

section
/-!
SUPPORT. The scalar conversion path touches nothing else (O9; 40_color_codec.md R140): every operation of a cycle commutes with a
change of CC_IN.
-/

namespace Sys2Proof.Machine

/-- `s` with the sample `h` in CC_IN. -/
def State.withSample (h : Half) (s : State) : State :=
  { s with regs := { s.regs with ccIn := h } }

/-- `f` treats CC_IN as a passenger: what it does is the same for every sample, and it leaves the sample where it is. -/
def CarriesSample (f : State → State) : Prop :=
  ∀ (h : Half) (s : State), f (s.withSample h) = (f s).withSample h

theorem carriesSample_id : CarriesSample (fun s => s) := fun _ _ => rfl

theorem CarriesSample.comp {f g : State → State} (hf : CarriesSample f) (hg : CarriesSample g) :
    CarriesSample (fun s => f (g s)) := fun h s => by
  dsimp only
  rw [hg, hf]

/-- A choice that does not read CC_IN, between operations that carry the sample. -/
theorem carriesSample_ite {c : State → Prop} [∀ s, Decidable (c s)] {f g : State → State}
    (hc : ∀ h s, c (s.withSample h) ↔ c s) (hf : CarriesSample f) (hg : CarriesSample g) :
    CarriesSample (fun s => if c s then f s else g s) := by
  intro h s
  dsimp only
  by_cases hs : c s
  · rw [if_pos hs, if_pos ((hc h s).mpr hs), hf]
  · rw [if_neg hs, if_neg (mt (hc h s).mp hs), hg]

/-! ### The units -/

theorem carriesSample_loseFetched : CarriesSample State.loseFetched :=
  carriesSample_ite (fun _ _ => .rfl) (fun _ _ => rfl) (fun _ _ => rfl)

theorem carriesSample_failTransfer (e : ErrCode) : CarriesSample (State.failTransfer e) :=
  CarriesSample.comp (f := State.raise e) (fun _ _ => rfl) carriesSample_loseFetched

theorem carriesSample_cutMemory : CarriesSample State.cutMemory := by
  intro h s
  obtain ⟨st, regs, int, pbuf, fbuf, rx, tx, out, inputs, cycle, draws⟩ := s
  obtain ⟨busy, done, err, hv, fv, pv, nf, rej, ec, lc, lf⟩ := st
  cases busy with
  | false => rfl
  | true =>
    cases lf with
    | idle =>
      exact carriesSample_ite (c := fun s => s.status.lastCmd = 2 ∧ s.int.res = some .success)
        (f := fun s => s.freeFbufPrefix s.pixelCount) (fun _ _ => .rfl) (fun _ _ => rfl) carriesSample_id h _
    | flush => rfl
    | txReady | poll | announce | txContinue | check | read | txRetry | txEnd => exact carriesSample_loseFetched h _

theorem carriesSample_parseStep : CarriesSample State.parseStep := by
  refine carriesSample_ite (fun _ _ => .rfl) (fun h s => ?_) (fun _ _ => rfl)
  unfold State.parseCommit
  dsimp only
  simp only [apply_ite (State.withSample h)]
  rfl

theorem carriesSample_decodeStep : CarriesSample State.decodeStep := by
  refine carriesSample_ite (fun _ _ => .rfl) (fun h s => ?_) (fun _ _ => rfl)
  have he : (s.withSample h).decodeError = s.decodeError := rfl
  unfold State.decodeCommit
  rw [he]
  cases s.decodeError <;> rfl

theorem carriesSample_flushStep (env : EnvIn) : CarriesSample (State.flushStep env) := by
  refine carriesSample_ite (fun _ _ => .rfl) (fun h s => ?_) (fun _ _ => rfl)
  obtain ⟨st, regs, int, pbuf, fbuf, rx, tx, out, inputs, cycle, draws⟩ := s
  cases rx <;> rfl

theorem carriesSample_sendWord (w : List Byte) (txReady : Bool) {last stalled : State → State}
    (hl : CarriesSample last) (hs : CarriesSample stalled) : CarriesSample (sendWord w txReady last stalled) := by
  refine carriesSample_ite (fun _ _ => .rfl) (carriesSample_ite (fun _ _ => .rfl) ?_ (fun _ _ => rfl)) hs
  exact CarriesSample.comp hl (g := fun s => (s.sent (w.getD s.int.txi 0)).setTxi 0) (fun _ _ => rfl)

theorem carriesSample_stallBeforeLast : CarriesSample State.stallBeforeLast :=
  carriesSample_ite (fun _ _ => .rfl) (carriesSample_failTransfer _) (fun _ _ => rfl)

theorem carriesSample_pollStep : CarriesSample State.pollStep := by
  intro h s
  obtain ⟨st, regs, int, pbuf, fbuf, rx, tx, out, inputs, cycle, draws⟩ := s
  cases rx <;> rfl

theorem carriesSample_announceStep : CarriesSample State.announceStep := by
  intro h s
  obtain ⟨st, regs, int, pbuf, fbuf, rx, tx, out, inputs, cycle, draws⟩ := s
  cases rx with
  | cons b rest =>
    exact carriesSample_ite (c := fun s => 2 ≤ s.int.ann) (f := fun s => (s.setTxi 0).goto .txContinue)
      (fun _ _ => .rfl) (fun _ _ => rfl) carriesSample_id h
      { status := st, regs, int := { int with ann := int.ann + 1 }, pbuf, fbuf, rxQueue := rest, txSent := tx, out, inputs,
        cycle, draws }
  | nil =>
    exact carriesSample_ite (c := fun s => s.expired = true) (fun _ _ => .rfl) (carriesSample_failTransfer _)
      carriesSample_id h _

theorem carriesSample_checkStep : CarriesSample State.checkStep :=
  carriesSample_ite (fun _ _ => .rfl) (carriesSample_failTransfer _) (fun _ _ => rfl)

theorem carriesSample_pbufWrite (a : Nat) (v : Byte) : CarriesSample (State.pbufWrite a v) :=
  carriesSample_ite (fun _ _ => .rfl) (fun _ _ => rfl) (fun _ _ => rfl)

theorem carriesSample_takeByte : CarriesSample State.takeByte := by
  intro h s
  cases hq : s.rxQueue with
  | nil => rw [State.takeByte_nil hq, State.takeByte_nil (s := s.withSample h) hq]
  | cons b rest =>
    rw [State.takeByte_cons hq, State.takeByte_cons (s := s.withSample h) hq, carriesSample_pbufWrite]
    rfl

theorem carriesSample_fullAttempt : CarriesSample State.fullAttempt := fun _ _ => by
  rw [State.fullAttempt_eq, State.fullAttempt_eq]
  rfl

theorem carriesSample_windowTick : CarriesSample State.windowTick :=
  CarriesSample.comp (g := fun s => { s with int := { s.int with rdw := s.int.rdw + 1 } })
    (f := fun s => if s.regs.readWindowMs.toNat ≤ s.int.rdw then (s.setTxi 0).goto .txRetry else s)
    (carriesSample_ite (fun _ _ => .rfl) (fun _ _ => rfl) carriesSample_id) (fun _ _ => rfl)

theorem carriesSample_readStep (tickMs : Bool) : CarriesSample (State.readStep tickMs) :=
  CarriesSample.comp (g := State.takeByte)
    (f := fun s => if s.int.rdn = s.regs.packetSize.toNat then s.fullAttempt else if tickMs then s.windowTick else s)
    (carriesSample_ite (fun _ _ => .rfl) carriesSample_fullAttempt
      (carriesSample_ite (fun _ _ => .rfl) carriesSample_windowTick carriesSample_id))
    carriesSample_takeByte

theorem carriesSample_fetchStep (env : EnvIn) : CarriesSample (State.fetchStep env) := by
  intro h s
  have hl : (s.withSample h).status.lfState = s.status.lfState := rfl
  unfold State.fetchStep
  rw [hl]
  cases s.status.lfState with
  | txReady => exact carriesSample_sendWord _ _ (fun _ _ => rfl) (fun _ _ => rfl) h s
  | poll => exact carriesSample_pollStep h s
  | announce => exact carriesSample_announceStep h s
  | txContinue =>
    exact carriesSample_sendWord _ _ (carriesSample_ite (fun _ _ => .rfl) (fun _ _ => rfl) (fun _ _ => rfl))
      carriesSample_stallBeforeLast h s
  | check => exact carriesSample_checkStep h s
  | read => exact carriesSample_readStep _ h s
  | txRetry => exact carriesSample_sendWord _ _ (fun _ _ => rfl) carriesSample_stallBeforeLast h s
  | txEnd => exact carriesSample_sendWord _ _ (fun _ _ => rfl) (fun _ _ => rfl) h s
  | idle | flush => rfl

theorem carriesSample_countElapsed (tickMs : Bool) (st : LfState) : CarriesSample (State.countElapsed tickMs st) :=
  carriesSample_ite (fun _ _ => .rfl) (fun _ _ => rfl) carriesSample_id

theorem carriesSample_linkStep (env : EnvIn) : CarriesSample (State.linkStep env) := by
  refine carriesSample_ite (fun _ _ => .rfl) (fun h s => ?_) (carriesSample_failTransfer _)
  rw [carriesSample_fetchStep]
  exact carriesSample_countElapsed _ _ h (s.fetchStep env)

/-- GPCL's step carries the sample. -/
theorem carriesSample_unitStep (env : EnvIn) : CarriesSample (State.unitStep env) := by
  refine carriesSample_ite (fun _ _ => .rfl) (fun h s => ?_) (fun _ _ => rfl)
  have hl : (s.withSample h).status.lfState = s.status.lfState := rfl
  rw [hl]
  cases s.status.lfState with
  | idle =>
    exact carriesSample_ite (c := fun s => s.status.lastCmd = 1) (fun _ _ => .rfl) carriesSample_parseStep
      (carriesSample_ite (c := fun s => s.status.lastCmd = 2) (fun _ _ => .rfl) carriesSample_decodeStep
        carriesSample_id) h s
  | flush => exact carriesSample_flushStep env h s
  | txReady | poll | announce | txContinue | check | read | txRetry | txEnd => exact carriesSample_linkStep env h s

/-! ### The host's transaction -/

/-- A host transaction's effect, of the start state and the state after the step, does not let the sample reach anything but CC_IN and
the read data. -/
def ColorBlind (host : State → State → State) : Prop :=
  ∀ (h : Half) (s0 s1 : State), eraseColor (host (s0.withSample h) (s1.withSample h)) = eraseColor (host s0 s1)

theorem eraseColor_withSample (h : Half) (s : State) : eraseColor (s.withSample h) = eraseColor s := rfl

theorem eraseColor_drive (v : Word) (s : State) : eraseColor (s.drive v) = eraseColor s := rfl

/-- An effect that carries the sample of the state after the step, whatever the start state, is color-blind. -/
theorem ColorBlind.of_carries {f : State → State} (hf : CarriesSample f) : ColorBlind (fun _ s1 => f s1) := by
  intro h _ s1
  dsimp only
  rw [hf, eraseColor_withSample]

theorem carriesSample_startLinkFetch (linkUp : Bool) : CarriesSample (startLinkFetch linkUp) := by
  intro h s
  cases he : s.fetchStarted.fetchStartError linkUp with
  | some e => rw [startLinkFetch_some he, startLinkFetch_some (s := s.withSample h) he]; rfl
  | none => rw [startLinkFetch_none he, startLinkFetch_none (s := s.withSample h) he]; rfl

theorem carriesSample_commandEffect (i : Instr) (linkUp : Bool) : CarriesSample (commandEffect i linkUp) := by
  intro h s
  cases i with
  | linkFetch => exact carriesSample_startLinkFetch linkUp h s
  | rxFlush =>
    exact carriesSample_ite (c := fun _ => linkUp = true) (f := fun s => (s.start 0x4).goto .flush)
      (g := fun s => (s.start 0x4).raise .channelUnavailable) (fun _ _ => .rfl) (fun _ _ => rfl) (fun _ _ => rfl) h s
  | _ => rfl

theorem carriesSample_writeReg {r : HostReg} (hr : r ≠ .ccIn) (data : Word) : CarriesSample (writeReg r data) := by
  intro h s
  cases r with
  | ccIn => exact absurd rfl hr
  | pbufData => exact congrArg State.advancePbuf (carriesSample_pbufWrite _ _ h s)
  | _ => rfl

theorem colorBlind_writeReg (r : HostReg) (data : Word) : ColorBlind (fun _ s1 => writeReg r data s1) := by
  by_cases hr : r = .ccIn
  · subst hr
    exact fun _ _ _ => rfl
  · exact ColorBlind.of_carries (carriesSample_writeReg hr data)

theorem carriesSample_readEffect (busyAtStart : Bool) (r : HostReg) : CarriesSample (readEffect busyAtStart r) := by
  intro h s
  cases r with
  | pbufData => cases busyAtStart <;> rfl
  | fbufData => cases busyAtStart <;> rfl
  | _ => rfl

theorem colorBlind_hostAccess (linkUp : Bool) (x : HostTxn) : ColorBlind (hostAccess linkUp x) := by
  intro h s0 s1
  cases x with
  | idle => rfl
  | read addr =>
    unfold hostAccess
    dsimp only
    split
    next r _ =>
      unfold hostRead
      rw [eraseColor_drive, eraseColor_drive, carriesSample_readEffect, eraseColor_withSample]
      rfl
    next => rfl
  | write addr data =>
    unfold hostAccess
    dsimp only
    split
    next r _ =>
      have hb : (s0.withSample h).status.busy = s0.status.busy := rfl
      unfold hostWrite
      rw [hb]
      split
      · rfl
      · exact colorBlind_writeReg r data h s0 s1
    next => rfl

theorem colorBlind_abort :
    ColorBlind (fun s0 s1 => if s0.status.busy && s1.status.busy then State.cancel s0 s1 else s1) := by
  intro h s0 s1
  have hcut : (State.cancel (s0.withSample h) (s1.withSample h)) = (State.cancel s0 s1).withSample h := by
    unfold State.cancel
    rw [carriesSample_cutMemory]
    rfl
  have hb : ((s0.withSample h).status.busy && (s1.withSample h).status.busy) = (s0.status.busy && s1.status.busy) := rfl
  dsimp only
  rw [hb, hcut]
  split <;> rfl

/-! ### The cycle -/

/-- A cycle whose host transaction is color-blind: the same next state, but for CC_IN and the read data. -/
theorem cycleWith_colorBlind {host : State → State → State} (hh : ColorBlind host) (h : Half) {s t : State}
    (hc : cycleWith host s = .next t) :
    ∃ t', cycleWith host (s.withSample h) = .next t' ∧ eraseColor t' = eraseColor t := by
  obtain ⟨hs, rfl⟩ := cycleWith_next hc
  refine ⟨_, cycleWith_of_noStray (s := s.withSample h) hs, ?_⟩
  have hu : (s.withSample h).beginCycle.unitStep (s.withSample h).sampled.env =
      (s.beginCycle.unitStep s.sampled.env).withSample h := carriesSample_unitStep _ h s.beginCycle
  rw [hu, hh]

theorem exec_colorBlind (i : Instr) (h : Half) {s t : State} (he : exec i s = .next t) :
    ∃ t', exec i (s.withSample h) = .next t' ∧ eraseColor t' = eraseColor t := by
  by_cases ha : i = .abort
  · subst ha
    exact cycleWith_colorBlind colorBlind_abort h he
  by_cases hc : ∃ data, i = .conv data
  · obtain ⟨data, rfl⟩ := hc
    exact cycleWith_colorBlind (colorBlind_writeReg .ccIn data) h he
  rw [exec_command ha (not_exists.mp hc)] at he ⊢
  refine cycleWith_colorBlind (fun h s0 s1 => ?_) h he
  have hb : (s0.withSample h).status.busy = s0.status.busy := rfl
  have hl : (s0.withSample h).sampled = s0.sampled := rfl
  rw [hb, hl]
  split
  · rfl
  · exact ColorBlind.of_carries (carriesSample_commandEffect i _) h s0 s1

theorem accessCycle_colorBlind (h : Half) {s t : State} (hc : accessCycle s = .next t) :
    ∃ t', accessCycle (s.withSample h) = .next t' ∧ eraseColor t' = eraseColor t :=
  cycleWith_colorBlind (fun h s0 s1 => colorBlind_hostAccess s0.sampled.env.linkUp s0.sampled.host h s0 s1) h hc

/-- A reset cycle forgets the sample. -/
theorem resetCycle_withSample (h : Half) (s : State) : resetCycle (s.withSample h) = resetCycle s := by
  have hc : (s.withSample h).beginCycle.cutMemory = s.beginCycle.cutMemory.withSample h :=
    carriesSample_cutMemory h s.beginCycle
  unfold resetCycle
  rw [hc]
  rfl

/-- Settles O9, by the three kinds of cycle: reset forgets the sample, and an instruction's or another access' cycle carries it. -/
theorem colorPathInfluencesNothing : Obligations.ColorPathInfluencesNothing := by
  intro s t h hstep
  change ∃ t', step (s.withSample h) = .next t' ∧ eraseColor t' = eraseColor t
  obtain ⟨hr, rfl⟩ | ⟨hr, i, hd, he⟩ | ⟨hr, n, hd, he⟩ := step_next hstep
  · exact ⟨_, step_reset (s := s.withSample h) hr, by rw [resetCycle_withSample]⟩
  · rw [step_instr (s := s.withSample h) hr hd]
    exact exec_colorBlind i h he
  · rw [step_access (s := s.withSample h) hr hd]
    exact accessCycle_colorBlind h he

end Sys2Proof.Machine
end

section
/-!
SUPPORT. Who may change what (O48 to O52): REJECTED, BUSY, the operands of a running command, PBUF and FBUF. Each is followed through
the unit's moves and the effects of the host's transaction.
-/

namespace Sys2Proof.Machine

/-! ### REJECTED and BUSY -/

@[simp] theorem writeReg_status (r : HostReg) (data : Word) (s : State) : (writeReg r data s).status = s.status := by
  cases r <;> simp [writeReg, State.pbufDataWrite]

theorem FetchMove.rejected {env : EnvIn} {s u : State} (h : FetchMove env s u) :
    u.status.rejected = s.status.rejected := by
  cases h <;> simp

/-- GPCL's step leaves REJECTED alone. -/
theorem UnitMove.rejected {env : EnvIn} {s u : State} (h : UnitMove env s u) :
    u.status.rejected = s.status.rejected := by
  cases h with
  | fetches v _ _ hm => simpa using hm.rejected
  | _ => simp

/-- LAST_CMD and REJECTED at the start of a LINK_FETCH, whether or not it passes its checks. -/
theorem startLinkFetch_status (linkUp : Bool) (s : State) :
    (startLinkFetch linkUp s).status.lastCmd = 3 ∧
      (startLinkFetch linkUp s).status.rejected = s.status.rejected := by
  cases h : s.fetchStarted.fetchStartError linkUp with
  | some e => rw [startLinkFetch_some h]; exact ⟨rfl, rfl⟩
  | none => rw [startLinkFetch_none h]; exact ⟨rfl, rfl⟩

theorem startRxFlush_status (linkUp : Bool) (s : State) :
    (startRxFlush linkUp s).status.lastCmd = 4 ∧ (startRxFlush linkUp s).status.rejected = s.status.rejected := by
  cases linkUp <;> exact ⟨rfl, rfl⟩

/-- Of the host's transactions in an idle cycle only CLEAR clears REJECTED. -/
theorem IdleEffect.rejected {x : HostTxn} {linkUp : Bool} {b t : State} (h : IdleEffect x linkUp b t) :
    t.status.rejected = b.status.rejected ∨ Sys2Proof.decode x = .ok .clear := by
  cases h with
  | clear hd => exact .inr hd
  | write => exact .inl (by simp)
  | linkFetch => exact .inl (startLinkFetch_status linkUp b).2
  | rxFlush => exact .inl (startRxFlush_status linkUp b).2
  | none | read | readPbuf | readFbuf | conv | parse | decode | illegal => exact .inl rfl

/-- A running command's cycle may set REJECTED, and never clears it. -/
theorem BusyEffect.rejected {x : HostTxn} {s u t : State} (h : BusyEffect x s u t)
    (hu : u.status.rejected = true) : t.status.rejected = true := by
  cases h <;> simp [hu]

/-- Settles O48. -/
theorem rejectedIsSticky : Obligations.RejectedIsSticky := by
  intro s t hstep hs ht
  cases hr : s.sampled.rst with
  | true => exact .inl rfl
  | false =>
    right
    cases hb : s.status.busy with
    | false =>
      obtain hkeep | hclear := (step_idle_effect hstep hr hb).rejected
      · rw [ht, State.beginCycle_status, hs] at hkeep; cases hkeep
      · exact ⟨rfl, hclear⟩
    | true =>
      have hu := (State.unitStep_move s.sampled.env (s := s.beginCycle) hb).rejected
      have hkeep := (step_busy_effect hstep hr hb).rejected (hu.trans hs)
      rw [ht] at hkeep; cases hkeep

/-- Of the host's transactions in an idle cycle only the four start commands set BUSY. -/
theorem IdleEffect.starts {x : HostTxn} {linkUp : Bool} {b t : State} (h : IdleEffect x linkUp b t)
    (hb : b.status.busy = false) (ht : t.status.busy = true) :
    ∃ i, Sys2Proof.decode x = .ok i ∧ (i = .parse ∨ i = .decode ∨ i = .linkFetch ∨ i = .rxFlush) ∧
      opcodeOf i = some t.status.lastCmd := by
  cases h with
  | parse hd => exact ⟨_, hd, .inl rfl, rfl⟩
  | decode hd => exact ⟨_, hd, .inr (.inl rfl), rfl⟩
  | linkFetch hd => exact ⟨_, hd, .inr (.inr (.inl rfl)), congrArg some (startLinkFetch_status linkUp b).1.symm⟩
  | rxFlush hd => exact ⟨_, hd, .inr (.inr (.inr rfl)), congrArg some (startRxFlush_status linkUp b).1.symm⟩
  | none | read | readPbuf | readFbuf | write | conv | clear => simp [hb] at ht
  | illegal => cases ht

/-- Settles O49. -/
theorem onlyStartCommandsSetBusy : Obligations.OnlyStartCommandsSetBusy := by
  intro s t hstep hb ht
  cases hr : s.sampled.rst with
  | true =>
    rw [step_reset hr] at hstep
    cases hstep
    cases ht
  | false => exact (step_idle_effect hstep hr hb).starts hb ht

/-! ### The operands of a running command -/

/-- The registers, the memories and BUSY after the host's transaction in a cycle whose command runs on. -/
theorem BusyEffect.runsOn {x : HostTxn} {s u t : State} (h : BusyEffect x s u t) (ht : t.status.busy = true) :
    u.status.busy = true ∧ t.regs = { u.regs with ccIn := t.regs.ccIn } ∧ t.pbuf = u.pbuf ∧ t.fbuf = u.fbuf := by
  cases h with
  | none | reject | read | conv => exact ⟨ht, rfl, rfl, rfl⟩
  | cancel => simp at ht

/-- A PARSE or DECODE that runs on writes no PBUF byte (10_state.md R43). -/
theorem UnitMove.pbuf_of_idle {env : EnvIn} {s u : State} (h : UnitMove env s u) (hl : s.status.lfState = .idle) :
    u.pbuf = s.pbuf := by
  cases h with
  | stays | counts | flushes | flushed | flushDown => rfl
  | parses => exact s.parseCommit_pbuf
  | decodes => exact s.decodeCommit_pbuf
  | linkDown hf => rw [hl] at hf; cases hf
  | fetches v hf => rw [hl] at hf; cases hf

theorem State.pbufByte_congr {s t : State} (h : t.pbuf = s.pbuf) (a : Nat) : t.pbufByte a = s.pbufByte a := by
  unfold State.pbufByte
  rw [h]

theorem State.fbufPixel_congr {s t : State} (h : t.fbuf = s.fbuf) (i : Nat) : t.fbufPixel i = s.fbufPixel i := by
  unfold State.fbufPixel
  rw [h]

/-- Settles O50: a cycle that does not end the command is one of its moves, and the host's transaction adds CC_IN alone. -/
theorem operandsFixedWhileBusy : Obligations.OperandsFixedWhileBusy := by
  intro s t hb hstep ht
  cases hr : s.sampled.rst with
  | true =>
    rw [step_reset hr] at hstep
    cases hstep
    cases ht
  | false =>
    obtain ⟨hu, hregs, hpbuf, hfbuf⟩ := (step_busy_effect hstep hr hb).runsOn ht
    have hmove := State.unitStep_move s.sampled.env (s := s.beginCycle) hb
    have hruns := hmove.runsOn hu
    refine ⟨?_, State.fbufPixel_congr (hfbuf.trans hruns.fbuf), fun hl =>
      State.pbufByte_congr (hpbuf.trans (hmove.pbuf_of_idle hl))⟩
    rw [hregs, hruns.regs]
    rfl

/-! ### PBUF -/

/-- What READ's handshake may change in PBUF (42_link_framer.md R195). -/
theorem State.takeByte_pbufByte_ne {s : State} {a : Nat} (h : s.takeByte.pbufByte a ≠ s.pbufByte a) :
    a = s.storeAddr ∧ s.rxQueue ≠ [] := by
  cases hq : s.rxQueue with
  | nil => rw [State.takeByte_nil hq] at h; exact absurd rfl h
  | cons b rest =>
    rw [State.takeByte_cons hq] at h
    change (s.pbufWrite s.storeAddr b).pbufByte a ≠ s.pbufByte a at h
    rw [State.pbufByte_pbufWrite] at h
    split_ifs at h with ha
    · exact ⟨ha.1, by simp⟩
    · exact absurd rfl h

/-- What a failing LINK_FETCH may change in PBUF (U2). -/
theorem State.loseFetched_pbufByte_ne {s : State} {a : Nat} (h : s.loseFetched.pbufByte a ≠ s.pbufByte a) :
    a < s.payloadBytes := by
  rw [State.pbufByte_loseFetched] at h
  split_ifs at h with ha
  · exact lt_of_lt_of_le ha.2 (Nat.min_le_left _ _)
  · exact absurd rfl h

/-- What the cut of a running command may change in PBUF (U2). -/
theorem State.cutMemory_pbufByte_ne {s : State} {a : Nat} (h : s.cutMemory.pbufByte a ≠ s.pbufByte a) :
    s.status.busy = true ∧ isFetchState s.status.lfState = true ∧ a < s.payloadBytes := by
  obtain hc | ⟨_, _, _, _, hc⟩ | ⟨hb, hf, hc⟩ := s.cutMemory_cases
  · rw [hc] at h; exact absurd rfl h
  · rw [hc] at h; exact absurd rfl h
  · rw [hc] at h; exact ⟨hb, hf, State.loseFetched_pbufByte_ne h⟩

/-- The two ways in which GPCL's step changes PBUF: READ stores a byte, or a LINK_FETCH fails. -/
def State.StoresOrFails (env : EnvIn) (s u : State) (a : Nat) : Prop :=
  (s.status.lfState = .read ∧ a = s.storeAddr ∧ env.linkUp = true ∧ s.rxQueue ≠ []) ∨
  (isFetchState s.status.lfState = true ∧ a < s.payloadBytes ∧ u.status.busy = false ∧ u.status.err = true)

theorem FetchMove.pbufByte_ne {env : EnvIn} {s u : State} {a : Nat} (h : FetchMove env s u)
    (hf : isFetchState s.status.lfState = true) (hup : env.linkUp = true) (ha : u.pbufByte a ≠ s.pbufByte a) :
    s.StoresOrFails env u a := by
  have stored : s.status.lfState = .read → u.pbuf = s.takeByte.pbuf → s.StoresOrFails env u a := by
    intro hl hp
    rw [State.pbufByte_congr hp] at ha
    obtain ⟨haddr, hq⟩ := State.takeByte_pbufByte_ne ha
    exact .inl ⟨hl, haddr, hup, hq⟩
  cases h with
  | timesOut => exact .inr ⟨hf, State.loseFetched_pbufByte_ne ha, by simp, by simp⟩
  | fills hl => exact stored hl (by simp)
  | pulses hl => exact stored hl (by simp)
  | takes hl => exact stored hl rfl
  | wordByte | readySent | continueSent | retrySent | endSent | waits | frameAnnounced | noFrame | discards
  | discardsLast | opens => exact absurd rfl ha

theorem UnitMove.pbufByte_ne {env : EnvIn} {s u : State} {a : Nat} (h : UnitMove env s u)
    (ha : u.pbufByte a ≠ s.pbufByte a) : s.StoresOrFails env u a := by
  cases h with
  | parses => exact absurd (State.pbufByte_congr s.parseCommit_pbuf a) ha
  | decodes => exact absurd (State.pbufByte_congr s.decodeCommit_pbuf a) ha
  | linkDown hf => exact .inr ⟨hf, State.loseFetched_pbufByte_ne ha, by simp, by simp⟩
  | fetches v hf hup hm =>
    rw [State.pbufByte_congr (State.countElapsed_pbuf _ _ _)] at ha
    simpa [State.StoresOrFails] using hm.pbufByte_ne hf hup ha
  | stays | counts | flushes | flushed | flushDown => exact absurd rfl ha

/-- The starts of the commands write no memory. -/
theorem startLinkFetch_memory (linkUp : Bool) (s : State) :
    (startLinkFetch linkUp s).pbuf = s.pbuf ∧ (startLinkFetch linkUp s).fbuf = s.fbuf := by
  cases h : s.fetchStarted.fetchStartError linkUp with
  | some e => rw [startLinkFetch_some h]; exact ⟨rfl, rfl⟩
  | none => rw [startLinkFetch_none h]; exact ⟨rfl, rfl⟩

theorem startRxFlush_memory (linkUp : Bool) (s : State) :
    (startRxFlush linkUp s).pbuf = s.pbuf ∧ (startRxFlush linkUp s).fbuf = s.fbuf := by
  cases linkUp <;> exact ⟨rfl, rfl⟩

@[simp] theorem writeReg_fbuf (r : HostReg) (data : Word) (s : State) : (writeReg r data s).fbuf = s.fbuf := by
  cases r <;> simp [writeReg, State.pbufDataWrite]

/-- Of the registers only PBUF_DATA writes PBUF (10_state.md R41). -/
theorem writeReg_pbuf {r : HostReg} (hr : r ≠ .pbufData) (data : Word) (s : State) :
    (writeReg r data s).pbuf = s.pbuf := by
  cases r with
  | pbufData => exact absurd rfl hr
  | _ => rfl

/-- The host's transaction in an idle cycle changes PBUF by a PBUF_DATA write alone (10_state.md R43). -/
theorem IdleEffect.pbufByte_ne {x : HostTxn} {linkUp : Bool} {b t : State} {a : Nat} (h : IdleEffect x linkUp b t)
    (ha : t.pbufByte a ≠ b.pbufByte a) :
    a = b.regs.pbufAddr.toNat ∧ ∃ addr data, x = .write addr data ∧ regAt addr = some .pbufData := by
  cases h with
  | write addr data r hx hr =>
    by_cases hd : r = .pbufData
    · subst hd
      refine ⟨?_, addr, data, hx, hr⟩
      change (b.pbufWrite b.regs.pbufAddr.toNat (data.setWidth 8)).pbufByte a ≠ b.pbufByte a at ha
      rw [State.pbufByte_pbufWrite] at ha
      split_ifs at ha with hc
      · exact hc.1
      · exact absurd rfl ha
    · exact absurd (State.pbufByte_congr (writeReg_pbuf hd data b) a) ha
  | linkFetch => exact absurd (State.pbufByte_congr (startLinkFetch_memory linkUp b).1 a) ha
  | rxFlush => exact absurd (State.pbufByte_congr (startRxFlush_memory linkUp b).1 a) ha
  | none | read | readPbuf | readFbuf | conv | parse | decode | clear | illegal => exact absurd rfl ha

/-- What a running command's cycle does to the memories and to the record of a completion: what the step did, or the cut by an ABORT
of the command that still runs. -/
theorem BusyEffect.memory {x : HostTxn} {s u t : State} (h : BusyEffect x s u t) :
    (t.pbuf = u.pbuf ∧ t.fbuf = u.fbuf ∧ t.status = { u.status with rejected := t.status.rejected }) ∨
    (Sys2Proof.decode x = .ok .abort ∧ u.status.busy = true ∧ t = State.cancel s u) := by
  cases h with
  | cancel hd hu => exact .inr ⟨hd, hu, rfl⟩
  | none | reject | read | conv => exact .inl ⟨rfl, rfl, rfl⟩

theorem State.RunsOn.pixelCount {s u : State} (h : s.RunsOn u) : u.pixelCount = s.pixelCount := by
  unfold State.pixelCount
  rw [h.regs]

/-- Settles O51, by who acts in the cycle: reset, the host, the link engine's step, or an ABORT that cuts it. -/
theorem whoWritesPbuf : Obligations.WhoWritesPbuf := by
  intro s t a hstep ha
  cases hr : s.sampled.rst with
  | true =>
    rw [step_reset hr] at hstep
    cases hstep
    obtain ⟨hb, hf, hlt⟩ := State.cutMemory_pbufByte_ne (s := s.beginCycle) ha
    exact .inr (.inr ⟨hb, hf, hlt, rfl, .inl rfl⟩)
  | false =>
    cases hb : s.status.busy with
    | false =>
      obtain ⟨haddr, hwrite⟩ := (step_idle_effect hstep hr hb).pbufByte_ne ha
      exact .inl ⟨rfl, rfl, haddr, hwrite⟩
    | true =>
      right
      have hmove := State.unitStep_move s.sampled.env (s := s.beginCycle) hb
      obtain ⟨hp, _, hst⟩ | ⟨_, hu, rfl⟩ := (step_busy_effect hstep hr hb).memory
      · rw [State.pbufByte_congr hp] at ha
        obtain ⟨hl, haddr, hup, hq⟩ | ⟨hf, hlt, hend, herr⟩ := hmove.pbufByte_ne ha
        · exact .inl ⟨rfl, rfl, hl, haddr, hup, hq⟩
        · exact .inr ⟨rfl, hf, hlt, by rw [hst]; exact hend, .inr (by rw [hst]; exact herr)⟩
      · by_cases hstored : (s.beginCycle.unitStep s.sampled.env).pbufByte a = s.pbufByte a
        · have hruns := hmove.runsOn hu
          have hcut : (s.beginCycle.unitStep s.sampled.env).cutMemory.pbufByte a ≠
              (s.beginCycle.unitStep s.sampled.env).pbufByte a := by rw [hstored]; exact ha
          obtain ⟨_, hf, hlt⟩ := State.cutMemory_pbufByte_ne hcut
          have hlt' : a < s.payloadBytes := by
            unfold State.payloadBytes at hlt ⊢
            rw [hruns.pixelCount] at hlt
            exact hlt
          exact .inr ⟨rfl, hruns.fetch.symm.trans hf, hlt', by simp, .inr (by simp)⟩
        · obtain ⟨hl, haddr, hup, hq⟩ | ⟨_, _, hend, _⟩ := hmove.pbufByte_ne hstored
          · exact .inl ⟨rfl, rfl, hl, haddr, hup, hq⟩
          · rw [hu] at hend; cases hend

/-! ### FBUF -/

theorem FetchMove.fbuf {env : EnvIn} {s u : State} (h : FetchMove env s u) : u.fbuf = s.fbuf := by
  cases h <;> simp

/-- GPCL's step changes FBUF only by a DECODE that ends with success (43_frame_decoder.md R236, R238). -/
theorem UnitMove.fbufPixel_ne {env : EnvIn} {s u : State} {i : Nat} (h : UnitMove env s u)
    (hi : u.fbufPixel i ≠ s.fbufPixel i) :
    s.status.lfState = .idle ∧ s.status.lastCmd = 2 ∧ i < s.pixelCount ∧
      u.status.busy = false ∧ u.status.pixValid = true ∧ u.status.err = false := by
  cases h with
  | parses => exact absurd (State.fbufPixel_congr s.parseCommit_fbuf i) hi
  | decodes hl hc =>
    obtain ⟨e, hd⟩ | ⟨_, hd⟩ := s.decodeCommit_cases <;> rw [hd] at hi ⊢
    · exact absurd rfl hi
    · change s.convertPayload.fbufPixel i ≠ s.fbufPixel i at hi
      rw [State.fbufPixel_convertPayload] at hi
      split_ifs at hi with hlt
      · exact ⟨hl, hc, hlt, rfl, rfl, rfl⟩
      · exact absurd rfl hi
  | linkDown => exact absurd (State.fbufPixel_congr (State.failTransfer_fbuf _ s) i) hi
  | fetches v _ _ hm => exact absurd (State.fbufPixel_congr ((State.countElapsed_fbuf _ _ v).trans hm.fbuf) i) hi
  | stays | counts | flushes | flushed | flushDown => exact absurd rfl hi

/-- The cut of a running command changes FBUF only if it is a DECODE that would have succeeded (U3). -/
theorem State.cutMemory_fbufPixel_ne {s : State} {i : Nat} (h : s.cutMemory.fbufPixel i ≠ s.fbufPixel i) :
    s.status.busy = true ∧ s.status.lfState = .idle ∧ s.status.lastCmd = 2 ∧ s.int.res = some .success ∧
      i < s.pixelCount := by
  obtain hc | ⟨hb, hl, hcmd, hres, hc⟩ | ⟨_, _, hc⟩ := s.cutMemory_cases <;> rw [hc] at h
  · exact absurd rfl h
  · rw [State.fbufPixel_freeFbufPrefix] at h
    split_ifs at h with hlt
    · exact ⟨hb, hl, hcmd, hres, lt_of_lt_of_le hlt (Nat.min_le_left _ _)⟩
    · exact absurd rfl h
  · exact absurd (State.fbufPixel_congr (State.loseFetched_fbuf s) i) h

/-- The host writes no FBUF entry (10_state.md R43). -/
theorem IdleEffect.fbuf {x : HostTxn} {linkUp : Bool} {b t : State} (h : IdleEffect x linkUp b t) : t.fbuf = b.fbuf := by
  cases h with
  | write => simp
  | linkFetch => exact (startLinkFetch_memory linkUp b).2
  | rxFlush => exact (startRxFlush_memory linkUp b).2
  | none | read | readPbuf | readFbuf | conv | parse | decode | clear | illegal => rfl

/-- Settles O52, by who acts in the cycle: reset, the DECODE's last step, or an ABORT that cuts it. -/
theorem whoWritesFbuf : Obligations.WhoWritesFbuf := by
  intro s t i hstep hi
  cases hr : s.sampled.rst with
  | true =>
    rw [step_reset hr] at hstep
    cases hstep
    obtain ⟨hb, hl, hc, hres, hlt⟩ := State.cutMemory_fbufPixel_ne (s := s.beginCycle) hi
    exact ⟨hb, hl, hc, hlt, rfl, .inr ⟨hres, .inl rfl⟩⟩
  | false =>
    cases hb : s.status.busy with
    | false => exact absurd (State.fbufPixel_congr (step_idle_effect hstep hr hb).fbuf i) hi
    | true =>
      have hmove := State.unitStep_move s.sampled.env (s := s.beginCycle) hb
      obtain ⟨_, hf, hst⟩ | ⟨habort, hu, rfl⟩ := (step_busy_effect hstep hr hb).memory
      · rw [State.fbufPixel_congr hf] at hi
        obtain ⟨hl, hc, hlt, hend, hpix, herr⟩ := hmove.fbufPixel_ne hi
        rw [hst]
        exact ⟨rfl, hl, hc, hlt, hend, .inl ⟨hpix, herr⟩⟩
      · have hruns := hmove.runsOn hu
        have hcut : (s.beginCycle.unitStep s.sampled.env).cutMemory.fbufPixel i ≠
            (s.beginCycle.unitStep s.sampled.env).fbufPixel i := by
          rw [State.fbufPixel_congr hruns.fbuf]; exact hi
        obtain ⟨_, hl, hc, hres, hlt⟩ := State.cutMemory_fbufPixel_ne hcut
        rw [hruns.status] at hc
        rw [hruns.pixelCount] at hlt
        exact ⟨rfl, hruns.idle.mp hl, hc, hlt, by simp, .inr ⟨hruns.res.symm.trans hres, .inr ⟨habort, by simp⟩⟩⟩

end Sys2Proof.Machine
end

section
/-!
SUPPORT. The channel (O53; 42_link_framer.md R182): every move of a unit moves exactly the bytes whose handshake the ports of the
cycle complete. And the two kinds of cycle in which none moves: an idle one (O54) and a reset (O55).
-/

namespace Sys2Proof.Machine

/-! ### The ports of a cycle -/

/-- A state that sends a control word consumes nothing (42_link_framer.md R182). -/
theorem consumesRx_of_controlWord {l : LfState} {w : List Byte} (h : controlWord l = some w) :
    consumesRx l = false := by
  cases l with
  | txReady | txContinue | txRetry | txEnd => rfl
  | idle | poll | announce | check | read | flush => cases h

/-- A state that consumes sends no control word. -/
theorem controlWord_of_consumesRx {l : LfState} (h : consumesRx l = true) : controlWord l = none := by
  cases l with
  | announce | read | flush => rfl
  | idle | txReady | poll | txContinue | check | txRetry | txEnd => cases h

/-- In a TX state with the link up, the byte `I.txi` of the word is offered and none is consumed. -/
theorem State.ports_word {s : State} {w : List Byte} (hb : s.status.busy = true)
    (hw : controlWord s.status.lfState = some w) :
    s.ports true = { hrdata := none, txValid := true, txData := w.getD s.int.txi 0, rxReady := false } := by
  simp [State.ports, hb, hw, consumesRx_of_controlWord hw]

/-- In every other state with the link up nothing is offered, and RX is ready in ANNOUNCE, READ and FLUSH. -/
theorem State.ports_noWord {s : State} (hb : s.status.busy = true) (hw : controlWord s.status.lfState = none) :
    s.ports true =
      { hrdata := none, txValid := false, txData := 0, rxReady := consumesRx s.status.lfState } := by
  simp [State.ports, hb, hw]

/-- With the link down nothing is offered and nothing is consumed. -/
theorem State.ports_down (s : State) :
    s.ports false = { hrdata := none, txValid := false, txData := 0, rxReady := false } := by
  simp [State.ports]

/-- From `s` to `u` exactly the bytes moved whose handshake is complete in the cycle that starts in `s`: an offered byte with
`tx_ready`, and the oldest received byte with `rx_ready` (10_state.md R23). -/
structure State.Handshake (env : EnvIn) (s u : State) : Prop where
  txSent : u.txSent =
    s.txSent ++ (if (s.ports env.linkUp).txValid && env.txReady then [(s.ports env.linkUp).txData] else [])
  rxQueue : u.rxQueue = if (s.ports env.linkUp).rxReady && !s.rxQueue.isEmpty then s.rxQueue.tail else s.rxQueue
  out : u.out = s.out

/-- A move that moves no byte, in a cycle without a complete handshake. -/
theorem State.Handshake.unmoved {env : EnvIn} {s u : State}
    (htx : ((s.ports env.linkUp).txValid && env.txReady) = false)
    (hrx : ((s.ports env.linkUp).rxReady && !s.rxQueue.isEmpty) = false) (hs : u.txSent = s.txSent)
    (hq : u.rxQueue = s.rxQueue) (ho : u.out = s.out) : s.Handshake env u :=
  ⟨by simp [htx, hs], by simp [hrx, hq], ho⟩

/-- A move that sends a byte of the state's control word. -/
theorem State.Handshake.sends {env : EnvIn} {s u : State} {w : List Byte} (hb : s.status.busy = true)
    (hup : env.linkUp = true) (hw : controlWord s.status.lfState = some w) (hr : env.txReady = true)
    (hs : u.txSent = s.txSent ++ [w.getD s.int.txi 0]) (hq : u.rxQueue = s.rxQueue) (ho : u.out = s.out) :
    s.Handshake env u := by
  refine ⟨?_, ?_, ho⟩ <;> rw [hup, State.ports_word hb hw]
  · simp [hr, hs]
  · simp [hq]

/-- A move that takes what is presented, if anything, in a state that consumes. -/
theorem State.Handshake.takes {env : EnvIn} {s u : State} (hb : s.status.busy = true) (hup : env.linkUp = true)
    (hc : consumesRx s.status.lfState = true) (hs : u.txSent = s.txSent) (hq : u.rxQueue = s.rxQueue.tail)
    (ho : u.out = s.out) : s.Handshake env u := by
  have hw := controlWord_of_consumesRx hc
  refine ⟨?_, ?_, ho⟩ <;> rw [hup, State.ports_noWord hb hw]
  · simp [hs]
  · cases hx : s.rxQueue <;> simp [hc, hq, hx]

/-- A move in a state that neither sends nor consumes. -/
theorem State.Handshake.still {env : EnvIn} {s u : State} (hb : s.status.busy = true)
    (hw : controlWord s.status.lfState = none) (hc : consumesRx s.status.lfState = false)
    (hs : u.txSent = s.txSent) (hq : u.rxQueue = s.rxQueue) (ho : u.out = s.out) : s.Handshake env u := by
  cases hup : env.linkUp with
  | false => exact .unmoved (by rw [hup, State.ports_down]; rfl) (by rw [hup, State.ports_down]; rfl) hs hq ho
  | true =>
    refine .unmoved ?_ ?_ hs hq ho <;> rw [hup, State.ports_noWord hb hw]
    · rfl
    · rw [hc]; rfl

/-- A waiting cycle has no complete handshake. -/
theorem State.Handshake.starved {env : EnvIn} {s u : State} (hb : s.status.busy = true) (hup : env.linkUp = true)
    (h : s.Starved env) (hs : u.txSent = s.txSent) (hq : u.rxQueue = s.rxQueue) (ho : u.out = s.out) :
    s.Handshake env u := by
  obtain ⟨w, hw, hr⟩ | ⟨hl, hempty⟩ := h
  · refine .unmoved ?_ ?_ hs hq ho <;> rw [hup, State.ports_word hb hw]
    · rw [hr]; rfl
    · rfl
  · refine .unmoved ?_ ?_ hs hq ho
    · rw [hup, State.ports_noWord hb (by rw [hl]; rfl)]; rfl
    · rw [hempty]; simp

/-! ### The moves -/

theorem FetchMove.handshake {env : EnvIn} {s u : State} (h : FetchMove env s u) (hb : s.status.busy = true)
    (hup : env.linkUp = true) : s.Handshake env u := by
  cases h with
  | wordByte w hw hr => exact .sends hb hup hw hr rfl rfl rfl
  | readySent hl hr => exact .sends hb hup (by rw [hl]; rfl) hr rfl rfl rfl
  | continueSent hl hr => exact .sends hb hup (by rw [hl]; rfl) hr rfl rfl rfl
  | retrySent hl hr => exact .sends hb hup (by rw [hl]; rfl) hr rfl rfl rfl
  | endSent hl hr => exact .sends hb hup (by rw [hl]; rfl) hr rfl rfl rfl
  | waits hs => exact .starved hb hup hs rfl rfl rfl
  | timesOut hs =>
    obtain hs | hl := hs
    · exact .starved hb hup hs (by simp) (by simp) (by simp)
    · exact .still hb (by rw [hl]; rfl) (by rw [hl]; rfl) (by simp) (by simp) (by simp)
  | frameAnnounced hl => exact .still hb (by rw [hl]; rfl) (by rw [hl]; rfl) rfl rfl rfl
  | noFrame hl => exact .still hb (by rw [hl]; rfl) (by rw [hl]; rfl) rfl rfl rfl
  | discards b rest hl hq => exact .takes hb hup (by rw [hl]; rfl) rfl (by rw [hq]; rfl) rfl
  | discardsLast b rest hl hq => exact .takes hb hup (by rw [hl]; rfl) rfl (by rw [hq]; rfl) rfl
  | opens hl => exact .still hb (by rw [hl]; rfl) (by rw [hl]; rfl) rfl rfl rfl
  | fills hl => exact .takes hb hup (by rw [hl]; rfl) (by simp) (by simp) (by simp)
  | pulses hl => exact .takes hb hup (by rw [hl]; rfl) (by simp) (by simp) (by simp)
  | takes hl => exact .takes hb hup (by rw [hl]; rfl) (by simp) (by simp) (by simp)

/-- GPCL's step of a running command moves exactly the bytes of complete handshakes. -/
theorem UnitMove.handshake {env : EnvIn} {s u : State} (h : UnitMove env s u) (hb : s.status.busy = true) :
    s.Handshake env u := by
  have down : env.linkUp = false → u.txSent = s.txSent → u.rxQueue = s.rxQueue → u.out = s.out →
      s.Handshake env u := by
    intro hup
    exact .unmoved (by rw [hup, State.ports_down]; rfl) (by rw [hup, State.ports_down]; rfl)
  cases h with
  | stays hl => exact .still hb (by rw [hl]; rfl) (by rw [hl]; rfl) rfl rfl rfl
  | counts hl => exact .still hb (by rw [hl]; rfl) (by rw [hl]; rfl) rfl rfl rfl
  | parses hl => exact .still hb (by rw [hl]; rfl) (by rw [hl]; rfl) (by simp) (by simp) (by simp)
  | decodes hl => exact .still hb (by rw [hl]; rfl) (by rw [hl]; rfl) (by simp) (by simp) (by simp)
  | flushes b rest hl hup hq => exact .takes hb hup (by rw [hl]; rfl) rfl (by rw [hq]; rfl) rfl
  | flushed hl hq =>
    cases hup : env.linkUp with
    | false => exact down hup rfl rfl rfl
    | true => exact .takes hb hup (by rw [hl]; rfl) rfl (by rw [State.finish_rxQueue, hq]; rfl) rfl
  | flushDown _ hup => exact down hup rfl rfl rfl
  | linkDown _ hup => exact down hup (by simp) (by simp) (by simp)
  | fetches v _ hup hm =>
    obtain ⟨htx, hrx, hout⟩ := hm.handshake hb hup
    exact ⟨by simpa using htx, by simpa using hrx, by simpa using hout⟩

/-! ### The host's transaction -/

theorem startLinkFetch_channel (linkUp : Bool) (s : State) :
    (startLinkFetch linkUp s).txSent = s.txSent ∧ (startLinkFetch linkUp s).rxQueue = s.rxQueue ∧
      (startLinkFetch linkUp s).out = s.out := by
  cases h : s.fetchStarted.fetchStartError linkUp with
  | some e => rw [startLinkFetch_some h]; exact ⟨rfl, rfl, rfl⟩
  | none => rw [startLinkFetch_none h]; exact ⟨rfl, rfl, rfl⟩

@[simp] theorem writeReg_rxQueue (r : HostReg) (data : Word) (s : State) : (writeReg r data s).rxQueue = s.rxQueue := by
  cases r <;> simp [writeReg, State.pbufDataWrite]
@[simp] theorem writeReg_txSent (r : HostReg) (data : Word) (s : State) : (writeReg r data s).txSent = s.txSent := by
  cases r <;> simp [writeReg, State.pbufDataWrite]
@[simp] theorem writeReg_out (r : HostReg) (data : Word) (s : State) : (writeReg r data s).out = s.out := by
  cases r <;> simp [writeReg, State.pbufDataWrite]

/-- The host moves no byte on the channel, and drives no port but `hrdata`. -/
theorem IdleEffect.channel {x : HostTxn} {linkUp : Bool} {b t : State} (h : IdleEffect x linkUp b t) :
    t.txSent = b.txSent ∧ t.rxQueue = b.rxQueue ∧ t.out = { b.out with hrdata := t.out.hrdata } := by
  cases h with
  | write => simp
  | linkFetch =>
    obtain ⟨htx, hrx, hout⟩ := startLinkFetch_channel linkUp b
    exact ⟨htx, hrx, by rw [hout]⟩
  | rxFlush => cases linkUp <;> exact ⟨rfl, rfl, rfl⟩
  | none | read | readPbuf | readFbuf | conv | parse | decode | clear | illegal => exact ⟨rfl, rfl, rfl⟩

theorem BusyEffect.channel {x : HostTxn} {s u t : State} (h : BusyEffect x s u t) :
    t.txSent = u.txSent ∧ t.rxQueue = u.rxQueue ∧ t.out = { u.out with hrdata := t.out.hrdata } := by
  cases h with
  | cancel => simp
  | none | reject | read | conv => exact ⟨rfl, rfl, rfl⟩

/-- With no command running no handshake can be complete. -/
theorem State.handshake_idle (env : EnvIn) {s : State} (hb : s.status.busy = false) : s.Handshake env s :=
  .unmoved (by rw [State.ports_idle _ hb]; rfl) (by rw [State.ports_idle _ hb]; rfl) rfl rfl rfl

/-- What a cycle's start and its step say of the bytes that moved, in terms of the state `t` the cycle leads to. -/
theorem State.Handshake.cycle {s u t : State} (h : s.beginCycle.Handshake s.sampled.env u)
    (ht : t.txSent = u.txSent ∧ t.rxQueue = u.rxQueue ∧ t.out = { u.out with hrdata := t.out.hrdata }) :
    t.txSent = s.txSent ++ (if t.out.txValid && s.sampled.env.txReady then [t.out.txData] else []) ∧
    t.rxQueue =
      (if t.out.rxReady && !s.beginCycle.rxQueue.isEmpty then s.beginCycle.rxQueue.tail else s.beginCycle.rxQueue) ∧
    t.out = { s.ports s.sampled.env.linkUp with hrdata := t.out.hrdata } := by
  obtain ⟨hutx, hurx, huout⟩ := h
  obtain ⟨htx, hrx, hout⟩ := ht
  rw [huout, State.beginCycle_out] at hout
  refine ⟨?_, ?_, hout⟩
  · rw [htx, hutx, hout]; rfl
  · rw [hrx, hurx, hout]; rfl

/-- A cycle without reset moves exactly the bytes of complete handshakes, and drives the ports of its start. -/
theorem step_handshake {s t : State} (hstep : step s = .next t) (hr : s.sampled.rst = false) :
    t.txSent = s.txSent ++ (if t.out.txValid && s.sampled.env.txReady then [t.out.txData] else []) ∧
    t.rxQueue =
      (if t.out.rxReady && !s.beginCycle.rxQueue.isEmpty then s.beginCycle.rxQueue.tail else s.beginCycle.rxQueue) ∧
    t.out = { s.ports s.sampled.env.linkUp with hrdata := t.out.hrdata } := by
  cases hb : s.status.busy with
  | false => exact (State.handshake_idle _ (s := s.beginCycle) hb).cycle (step_idle_effect hstep hr hb).channel
  | true =>
    exact ((State.unitStep_move _ (s := s.beginCycle) hb).handshake hb).cycle (step_busy_effect hstep hr hb).channel

/-- In which states `rx_ready` and `tx_valid` are 1 (42_link_framer.md R182). -/
theorem State.ports_iff (linkUp : Bool) (s : State) :
    ((s.ports linkUp).rxReady = true ↔ s.status.busy = true ∧ linkUp = true ∧
      (s.status.lfState = .announce ∨ s.status.lfState = .read ∨ s.status.lfState = .flush)) ∧
    ((s.ports linkUp).txValid = true ↔ s.status.busy = true ∧ linkUp = true ∧
      (s.status.lfState = .txReady ∨ s.status.lfState = .txContinue ∨ s.status.lfState = .txRetry ∨
        s.status.lfState = .txEnd)) := by
  cases hb : s.status.busy with
  | false => rw [State.ports_idle _ hb]; simp
  | true =>
    cases linkUp with
    | false => rw [State.ports_down]; simp
    | true =>
      cases hl : s.status.lfState with
      | txReady | txContinue | txRetry | txEnd => rw [State.ports_word hb (by rw [hl]; rfl)]; simp
      | idle | poll | announce | check | read | flush =>
        rw [State.ports_noWord hb (by rw [hl]; rfl), hl]; simp [consumesRx]

/-- What `tx_data` carries (R182, U17). -/
theorem State.ports_txData (linkUp : Bool) (s : State) :
    (∀ w b, (s.ports linkUp).txValid = true → controlWord s.status.lfState = some w → w[s.int.txi]? = some b →
      (s.ports linkUp).txData = b) ∧
    ((s.ports linkUp).txValid = false → (s.ports linkUp).txData = 0) := by
  cases hb : s.status.busy with
  | false => rw [State.ports_idle _ hb]; simp
  | true =>
    cases linkUp with
    | false => rw [State.ports_down]; simp
    | true =>
      cases hw : controlWord s.status.lfState with
      | none => rw [State.ports_noWord hb hw]; simp
      | some w =>
        rw [State.ports_word hb hw]
        refine ⟨fun w' b _ hw' hbyte => ?_, by simp⟩
        cases hw'
        simp [hbyte]

/-! ### Reset and idle cycles -/

/-- What a reset cycle does to each field it does not reset (10_state.md R22). -/
theorem resetCycle_channel (s : State) :
    (resetCycle s).txSent = s.txSent ∧ (resetCycle s).rxQueue = applyRx s.sampled.env.rx s.rxQueue ∧
      (resetCycle s).out = PortsOut.reset := by
  unfold resetCycle
  simp

/-- Settles O53: in a reset cycle nothing moves; in every other the moves follow the ports of its start. -/
theorem bytesMoveByHandshake : Obligations.BytesMoveByHandshake := by
  rintro s t q hstep rfl
  cases hr : s.sampled.rst with
  | true =>
    rw [step_reset hr] at hstep
    cases hstep
    obtain ⟨htx, hrx, hout⟩ := resetCycle_channel s
    rw [hout, htx, hrx]
    simp [PortsOut.reset]
  | false =>
    obtain ⟨htx, hrx, hout⟩ := step_handshake hstep hr
    refine ⟨htx, hrx, by simp, fun _ => ?_⟩
    obtain ⟨hrxReady, htxValid⟩ := s.ports_iff s.sampled.env.linkUp
    obtain ⟨hdata, hquiet⟩ := s.ports_txData s.sampled.env.linkUp
    rw [hout]
    exact ⟨hrxReady, htxValid, hdata, hquiet⟩

/-- Two states with the same memories read the same everywhere. -/
theorem sameMemory_of_eq {s t : State} (hp : t.pbuf = s.pbuf) (hf : t.fbuf = s.fbuf) : SameMemory s t :=
  ⟨State.pbufByte_congr hp, State.fbufPixel_congr hf⟩

/-- Settles O54: the cycle is its start alone, whose ports offer nothing. -/
theorem idleIsQuiescent : Obligations.IdleIsQuiescent := by
  intro s hb hr hh
  have hstep := step_idleHost hr hh (State.strayStore_idle _ (s := s.beginCycle) hb)
  rw [State.unitStep_idle (s := s.beginCycle) _ hb] at hstep
  refine ⟨_, hstep, rfl, rfl, rfl, sameMemory_of_eq rfl rfl, ⟨rfl, rfl⟩, ?_⟩
  rw [QuietPorts, State.beginCycle_out, State.ports_idle _ hb]
  exact ⟨rfl, rfl⟩

/-- What a reset cycle may change in PBUF (70_reset_and_hazards.md R303, U2). -/
theorem resetCycle_pbufByte_ne {s : State} {a : Nat} (h : (resetCycle s).pbufByte a ≠ s.pbufByte a) :
    s.status.busy = true ∧ isFetchState s.status.lfState = true ∧ a < s.payloadBytes :=
  State.cutMemory_pbufByte_ne (s := s.beginCycle) h

/-- What a reset cycle may change in FBUF (R303, U3). -/
theorem resetCycle_fbufPixel_ne {s : State} {i : Nat} (h : (resetCycle s).fbufPixel i ≠ s.fbufPixel i) :
    s.status.busy = true ∧ s.status.lfState = .idle ∧ s.status.lastCmd = 2 ∧ s.int.res = some .success ∧
      i < s.pixelCount :=
  State.cutMemory_fbufPixel_ne (s := s.beginCycle) h

end Sys2Proof.Machine

namespace Sys2Proof.Laws

open Sys2Proof.Machine

/-- Settles O55: everything but the memories is overwritten, and those change as the cut of the running command does. -/
theorem resetCycle : Obligations.ResetCycle := by
  intro s hr
  obtain ⟨htx, hrx, _⟩ := resetCycle_channel s
  refine ⟨_, step_reset hr, rfl, rfl, rfl, rfl, ⟨htx, hrx⟩, fun hb => ⟨fun a => ?_, fun i => ?_⟩, fun a ha => ?_,
    fun i hi => ?_, fun hf a => ?_, fun hd i => ?_⟩ <;> by_contra hne
  · obtain ⟨hbusy, _⟩ := resetCycle_pbufByte_ne hne
    rw [hb] at hbusy; cases hbusy
  · obtain ⟨hbusy, _⟩ := resetCycle_fbufPixel_ne hne
    rw [hb] at hbusy; cases hbusy
  · obtain ⟨_, _, hlt⟩ := resetCycle_pbufByte_ne hne
    exact absurd hlt (Nat.not_lt.mpr ha)
  · obtain ⟨_, _, _, _, hlt⟩ := resetCycle_fbufPixel_ne hne
    exact absurd hlt (Nat.not_lt.mpr hi)
  · obtain ⟨_, hfetch, _⟩ := resetCycle_pbufByte_ne hne
    rw [hf] at hfetch; cases hfetch
  · obtain ⟨hb, hl, hc, hres, _⟩ := resetCycle_fbufPixel_ne hne
    exact hd ⟨hb, hl, hc, hres⟩

end Sys2Proof.Laws
end

section
/-!
SUPPORT. The host port (O1, O8, O40 to O46, O56): where each field stands in the word that a read returns, and what a cycle with a
read, a write or CONV leads to.
-/

namespace Sys2Proof.Machine

/-! ### Words made of fields -/

/-- A concatenation as a number: the right part below the left one. -/
theorem toNat_append_eq_add {m n : Nat} (x : BitVec m) (y : BitVec n) :
    (x ++ y).toNat = x.toNat * 2 ^ n + y.toNat := by
  rw [BitVec.toNat_append, ← Nat.shiftLeft_add_eq_or_of_lt y.isLt, Nat.shiftLeft_eq]

/-- A field that is widened to a word keeps its number. -/
theorem toNat_setWidth_word {n : Nat} (x : BitVec n) (hn : n ≤ 32) : (x.setWidth 32).toNat = x.toNat :=
  BitVec.toNat_setWidth_of_le hn

/-- Settles O40: each field is found by dropping the fields below it. -/
theorem statusLayout : Obligations.StatusLayout := by
  intro linkUp s w
  have hw : w = statusWord linkUp s.status := rfl
  rw [hw]
  unfold statusWord
  simp (disch := decide) only [BitVec.getLsbD_append, BitVec.getLsbD_ofBool, BitVec.extractLsb'_append_eq_of_add_le,
    BitVec.extractLsb'_append_eq_of_le, BitVec.extractLsb'_eq_self, Nat.reduceLT, Nat.reduceSub, if_true, if_false,
    decide_true, Bool.true_and, true_and, and_true]
  refine ⟨?_, ?_⟩
  · cases s.status.errcode with
    | none => rfl
    | some e => cases e <;> rfl
  · cases s.status.lfState <;> rfl

/-- HDR_FLAGS as a number: STATUS_BYTE above COMPRESSED (10_state.md R36). -/
theorem readReg_hdrFlags_toNat (linkUp : Bool) (s : State) :
    (readReg linkUp .hdrFlags s).toNat = s.regs.statusByte.toNat * 256 + s.regs.compressed.toNat := by
  change ((0 : BitVec 16) ++ s.regs.statusByte ++ (0 : BitVec 7) ++ BitVec.ofBool s.regs.compressed).toNat = _
  simp only [toNat_append_eq_add, BitVec.toNat_ofBool, BitVec.ofNat_eq_ofNat, BitVec.toNat_ofNat, Nat.zero_mod]
  omega

/-- A 5-bit field scales within a byte. -/
theorem scale5_toNat (x : BitVec 5) : (scale5 x).toNat = x.toNat * 255 / 31 := by
  have hx := x.isLt
  rw [scale5, BitVec.toNat_ofNat]
  omega

/-- A 6-bit field scales within a byte. -/
theorem scale6_toNat (x : BitVec 6) : (scale6 x).toNat = x.toNat * 255 / 63 := by
  have hx := x.isLt
  rw [scale6, BitVec.toNat_ofNat]
  omega

/-- CC_OUT as a number: the three scaled channels (40_color_codec.md R141). -/
theorem readReg_ccOut_toNat (linkUp : Bool) (s : State) :
    (readReg linkUp .ccOut s).toNat =
      s.regs.ccIn.toNat / 2048 * 255 / 31 * 65536 + s.regs.ccIn.toNat / 32 % 64 * 255 / 63 * 256 +
        s.regs.ccIn.toNat % 32 * 255 / 31 := by
  have hin := s.regs.ccIn.isLt
  have hred : (red5 s.regs.ccIn).toNat = s.regs.ccIn.toNat / 2048 := by
    rw [red5, BitVec.extractLsb'_toNat, Nat.shiftRight_eq_div_pow]
    omega
  have hgreen : (green6 s.regs.ccIn).toNat = s.regs.ccIn.toNat / 32 % 64 := by
    rw [green6, BitVec.extractLsb'_toNat, Nat.shiftRight_eq_div_pow]
  have hblue : (blue5 s.regs.ccIn).toNat = s.regs.ccIn.toNat % 32 := by
    rw [blue5, BitVec.extractLsb'_toNat, Nat.shiftRight_zero]
  change ((convPixel s.regs.ccIn).setWidth 32).toNat = _
  rw [toNat_setWidth_word _ (by decide), convPixel, packRgb, toNat_append_eq_add, toNat_append_eq_add]
  simp only [convSample, scale5_toNat, scale6_toNat, hred, hgreen, hblue]
  omega

/-- Settles O42. -/
theorem dataWindowReads : Obligations.DataWindowReads := by
  intro s linkUp
  refine ⟨fun hb => ?_, fun hb => ?_⟩ <;> simp only [readReg, hb]
  · exact ⟨rfl, rfl⟩
  · exact ⟨toNat_setWidth_word _ (by decide), toNat_setWidth_word _ (by decide)⟩

/-- Settles O56. -/
theorem resetRegisterValues : Obligations.ResetRegisterValues := by
  intro linkUp r hp hf
  cases r with
  | status => cases linkUp <;> decide
  | pbufData => exact absurd rfl hp
  | fbufData => exact absurd rfl hf
  | _ => rfl

/-! ### Instructions -/

/-- Settles O1. -/
theorem stepRunsDecodedInstruction : Obligations.StepRunsDecodedInstruction :=
  fun _ _ hr hd => step_instr hr hd

/-- Settles O8: CONV's write acts on the state after the running command's step. -/
theorem convWhileBusy : Obligations.ConvWhileBusy := by
  intro s data _ hs
  refine ⟨_, _, (exec_conv data s).trans (cycleWith_of_noStray hs), rfl, ?_, rfl, rfl, sameMemory_of_eq rfl rfl, rfl, rfl⟩
  rw [State.setCcIn_regs, BitVec.setWidth_eq_extractLsb' (by decide)]

/-! ### Reads -/

/-- A host read's cycle: GPCL's step, the window's move, and the register's start value on `hrdata` (10_state.md R21). -/
theorem step_read {s : State} {addr : BitVec 8} {r : HostReg} (hr : s.sampled.rst = false)
    (hh : s.sampled.host = .read addr) (ha : regAt addr = some r)
    (hs : s.beginCycle.strayStore s.sampled.env = none) :
    step s = .next (hostRead s.sampled.env.linkUp r s (s.beginCycle.unitStep s.sampled.env)) := by
  have hd : Sys2Proof.decode s.sampled.host = .error (.registerRead r) := by simp [Sys2Proof.decode, hh, ha]
  rw [step_access hr hd, accessCycle, cycleWith_of_noStray hs, hh]
  simp [hostAccess, ha]

/-- What a host read changes besides `hrdata`: PBUF_ADDR or FBUF_ADDR, by a window's read with no command running. -/
theorem readEffect_regs (busy : Bool) (r : HostReg) (s : State) :
    (readEffect busy r s).regs =
      { s.regs with
        pbufAddr := if r = .pbufData ∧ busy = false then s.regs.pbufAddr + 1 else s.regs.pbufAddr
        fbufAddr := if r = .fbufData ∧ busy = false then s.regs.fbufAddr + 1 else s.regs.fbufAddr } := by
  cases r with
  | pbufData | fbufData => cases busy <;> simp [readEffect]
  | _ => simp [readEffect]

/-- A host read moves nothing but a window's address. -/
theorem readEffect_frame (busy : Bool) (r : HostReg) (s : State) :
    (readEffect busy r s).status = s.status ∧ (readEffect busy r s).int = s.int ∧
    (readEffect busy r s).pbuf = s.pbuf ∧ (readEffect busy r s).fbuf = s.fbuf ∧
    (readEffect busy r s).txSent = s.txSent ∧ (readEffect busy r s).rxQueue = s.rxQueue := by
  cases r with
  | pbufData | fbufData => cases busy <;> simp [readEffect]
  | _ => simp [readEffect]

/-- Settles O41: the map of the registers, then the cycle of a read. -/
theorem hostReadReturnsStartValue : Obligations.HostReadReturnsStartValue := by
  constructor
  · intro linkUp s
    have hcfg : (readReg linkUp .cfg s).toNat = s.regs.lastCont.toNat :=
      (toNat_setWidth_word _ (by decide)).trans (BitVec.toNat_ofBool _)
    exact ⟨rfl, hcfg, toNat_setWidth_word _ (by decide), readReg_ccOut_toNat linkUp s, rfl, rfl,
      toNat_setWidth_word _ (by decide), rfl, rfl, rfl, rfl, readReg_hdrFlags_toNat linkUp s, rfl, rfl, rfl, rfl, rfl, rfl,
      rfl, rfl, rfl, toNat_setWidth_word _ (by decide), toNat_setWidth_word _ (by decide)⟩
  · rintro s u addr r hr hh ha hs rfl
    obtain ⟨hst, hint, hp, hf, htx, hrx⟩ :=
      readEffect_frame s.status.busy r (s.beginCycle.unitStep s.sampled.env)
    exact ⟨_, step_read hr hh ha hs, rfl, hst, hint, sameMemory_of_eq hp hf, htx, hrx, readEffect_regs _ _ _⟩

/-! ### Writes -/

/-- A write of a register other than CMD and CC_IN is an access (10_state.md R26). -/
theorem decode_write {addr : BitVec 8} {r : HostReg} (data : Word) (ha : regAt addr = some r) (hcmd : r ≠ .cmd)
    (hcc : r ≠ .ccIn) : Sys2Proof.decode (.write addr data) = .error (.registerWrite r) := by
  cases r with
  | cmd => exact absurd rfl hcmd
  | ccIn => exact absurd rfl hcc
  | _ => simp [Sys2Proof.decode, ha]

/-- The cycle of a write of a register other than CMD and CC_IN. -/
theorem step_write {s : State} {addr : BitVec 8} {data : Word} {r : HostReg} (hr : s.sampled.rst = false)
    (hh : s.sampled.host = .write addr data) (ha : regAt addr = some r) (hcmd : r ≠ .cmd) (hcc : r ≠ .ccIn)
    (hs : s.beginCycle.strayStore s.sampled.env = none) :
    step s = .next (hostWrite s.status.busy r data (s.beginCycle.unitStep s.sampled.env)) := by
  have hd : Sys2Proof.decode s.sampled.host = .error (.registerWrite r) := by rw [hh]; exact decode_write data ha hcmd hcc
  rw [step_access hr hd, accessCycle, cycleWith_of_noStray hs, hh]
  simp [hostAccess, ha]

/-- CONV's operand drops only bits that CC_IN ignores (10_state.md R30). -/
theorem setCcIn_sampleField (data : Word) (s : State) : s.setCcIn (sampleField data) = s.setCcIn data := by
  have h : (sampleField data).setWidth 16 = data.setWidth 16 := by
    rw [sampleField, ← BitVec.setWidth_eq_extractLsb' (by decide), BitVec.setWidth_setWidth_of_le _ (by decide),
      BitVec.setWidth_eq]
  unfold State.setCcIn
  rw [h]

/-- With no command running, the cycle of a write of any register but CMD is that register's effect. -/
theorem step_write_idle {s : State} {addr : BitVec 8} {data : Word} {r : HostReg} (hr : s.sampled.rst = false)
    (hh : s.sampled.host = .write addr data) (ha : regAt addr = some r) (hcmd : r ≠ .cmd)
    (hb : s.status.busy = false) : step s = .next (writeReg r data s.beginCycle) := by
  by_cases hcc : r = .ccIn
  · subst hcc
    have hd : Sys2Proof.decode s.sampled.host = .ok (.conv (sampleField data)) := by
      simp [Sys2Proof.decode, hh, ha]
    rw [step_instr hr hd, exec_conv, cycleWith_idle hb, setCcIn_sampleField]
    rfl
  · rw [step_write hr hh ha hcmd hcc (State.strayStore_idle _ (s := s.beginCycle) hb),
      State.unitStep_idle (s := s.beginCycle) _ hb, hb, hostWrite_idle]

/-- Settles O43. -/
theorem pbufDataWrite : Obligations.PbufDataWrite := by
  intro s addr data hr hh ha hb
  have hlt : s.regs.pbufAddr.toNat < Config.pbufBytes := s.regs.pbufAddr.isLt
  have hbyte : ∀ a, (writeReg .pbufData data s.beginCycle).pbufByte a =
      if a = s.regs.pbufAddr.toNat ∧ s.regs.pbufAddr.toNat < Config.pbufBytes then data.setWidth 8 else s.pbufByte a :=
    fun a => State.pbufByte_pbufWrite _ a _ s.beginCycle
  have hregs : (writeReg .pbufData data s.beginCycle).regs = { s.regs with pbufAddr := s.regs.pbufAddr + 1 } := by
    simp [writeReg, State.pbufDataWrite]
  refine ⟨_, step_write_idle hr hh ha (by decide) hb, ?_, fun a hne => ?_, State.fbufPixel_congr (writeReg_fbuf _ _ _), ?_,
    ?_, writeReg_status _ _ _, writeReg_txSent _ _ _, writeReg_rxQueue _ _ _⟩
  · rw [hbyte, if_pos ⟨rfl, hlt⟩, BitVec.setWidth_eq_extractLsb' (by decide)]
  · rw [hbyte, if_neg (fun h => hne h.1)]
  · rw [hregs]
    exact BitVec.toNat_add _ _
  · rw [hregs]

@[simp] theorem writeReg_int (r : HostReg) (data : Word) (s : State) : (writeReg r data s).int = s.int := by
  cases r <;> simp [writeReg, State.pbufDataWrite]

/-- A write is seen through no register but its own, CC_OUT for CC_IN, and a window for its address (10_state.md R31, R41, R42). -/
theorem readReg_writeReg_of_notMem {r r' : HostReg} (hp : r ≠ .pbufData) (hr : r' ∉ affectedBy r) (linkUp : Bool)
    (data : Word) (s : State) : readReg linkUp r' (writeReg r data s) = readReg linkUp r' s := by
  cases r with
  | pbufData => exact absurd rfl hp
  | _ => cases r' <;> simp [affectedBy] at hr <;> rfl

/-- The low `n` bits of a word, widened again, are the word with the other bits masked. -/
theorem setWidth_setWidth_eq_and (n : Nat) (hn : n ≤ 32) (data : Word) :
    (data.setWidth n).setWidth 32 = data &&& BitVec.ofNat 32 (2 ^ n - 1) := by
  have hpow : 2 ^ n ≤ 2 ^ 32 := Nat.pow_le_pow_right (by decide) hn
  have hpos : 0 < 2 ^ n := Nat.two_pow_pos n
  apply BitVec.eq_of_toNat_eq
  rw [toNat_setWidth_word _ hn, BitVec.toNat_setWidth, BitVec.toNat_and, BitVec.toNat_ofNat,
    Nat.mod_eq_of_lt (by omega : 2 ^ n - 1 < 2 ^ 32), Nat.and_two_pow_sub_one_eq_mod]

/-- A write of HDR_FLAGS keeps STATUS_BYTE (10_state.md R36). -/
theorem hdrFlags_write (sb : Byte) (c d : Bool) :
    (0 : BitVec 16) ++ sb ++ (0 : BitVec 7) ++ BitVec.ofBool d =
      (((0 : BitVec 16) ++ sb ++ (0 : BitVec 7) ++ BitVec.ofBool c) &&& 0xFF00) ||| (BitVec.ofBool d).setWidth 32 := by
  have hmask : (0xFF00 : Word) = (0 : BitVec 16) ++ BitVec.allOnes 8 ++ (0 : BitVec 7) ++ BitVec.ofBool false := by decide
  have hbit : (BitVec.ofBool d).setWidth 32 = (0 : BitVec 16) ++ (0 : BitVec 8) ++ (0 : BitVec 7) ++ BitVec.ofBool d := by
    cases d <;> decide
  have hlow : BitVec.ofBool c &&& BitVec.ofBool false = 0 := by cases c <;> rfl
  rw [hmask, hbit, BitVec.and_append, BitVec.and_append, BitVec.and_append, BitVec.and_allOnes, hlow]
  refine Eq.trans ?_ (BitVec.or_append ..).symm
  rw [BitVec.or_append, BitVec.or_append]
  simp

/-- What the register `r` reads as after an accepted write of `data`, if it read as `old` before: the written word, less the bits
that the register ignores (10_state.md R29 to R44). -/
def readBack (r : HostReg) (old data : Word) : Word :=
  match r with
  | .cfg => data &&& 1
  | .ccIn => data &&& 0xFFFF
  | .hdrFlags => (old &&& 0xFF00) ||| (data &&& 1)
  | .pbufAddr => data &&& 0x1FFFF
  | .fbufAddr => data &&& 0xFFFF
  | _ => data

theorem readReg_writeReg_same {r : HostReg} (hcmd : r ≠ .cmd) (hp : r ≠ .pbufData) (hw : writable r = true)
    (linkUp : Bool) (data : Word) (s : State) :
    readReg linkUp r (writeReg r data s) = readBack r (readReg linkUp r s) data := by
  have hbit : (BitVec.ofBool (data.getLsbD 0)).setWidth 32 = data &&& 1 := BitVec.and_one_eq_setWidth_ofBool_getLsbD.symm
  cases r with
  | cmd => exact absurd rfl hcmd
  | pbufData => exact absurd rfl hp
  | cfg => exact hbit
  | ccIn => exact setWidth_setWidth_eq_and 16 (by decide) data
  | pbufAddr => exact setWidth_setWidth_eq_and 17 (by decide) data
  | fbufAddr => exact setWidth_setWidth_eq_and 16 (by decide) data
  | hdrFlags => exact (hdrFlags_write s.regs.statusByte s.regs.compressed (data.getLsbD 0)).trans (by rw [hbit]; rfl)
  | srcLen | cursor | width | height | payloadOff | payloadLen | packetCount | deadlineMs | readWindowMs => rfl
  | status | ccOut | hdrVersion | frameId | frameTimeMs | packetSize | pktReceived | retryCount | elapsedMs
  | fbufData => cases hw

/-- Settles O44. -/
theorem acceptedWriteReadsBack : Obligations.AcceptedWriteReadsBack := by
  intro s addr data r hr hh ha hcmd hp hw hb
  exact ⟨_, step_write_idle hr hh ha hcmd hb, sameMemory_of_eq (writeReg_pbuf hp _ _) (writeReg_fbuf _ _ _),
    ⟨writeReg_txSent _ _ _, writeReg_rxQueue _ _ _⟩, writeReg_int _ _ _, writeReg_status _ _ _,
    fun linkUp r' hr' => readReg_writeReg_of_notMem hp hr' linkUp data s.beginCycle,
    fun linkUp => (readReg_writeReg_same hcmd hp hw linkUp data s.beginCycle).trans (by cases r <;> rfl)⟩

/-- The opcode map loses nothing: all 16 values (30_encoding.md R101). -/
theorem opcodeOf_decodeOpcode : ∀ op : BitVec 4, opcodeOf (decodeOpcode op) = some op := by
  decide

/-- Only opcode 5 is ABORT (30_encoding.md R101). -/
theorem decodeOpcode_ne_abort {op : BitVec 4} (h : op ≠ 5) : decodeOpcode op ≠ .abort := by
  intro ha
  have hop := opcodeOf_decodeOpcode op
  rw [ha] at hop
  exact h (Option.some.inj hop).symm

/-- No opcode is CONV (30_encoding.md R103). -/
theorem decodeOpcode_ne_conv (op : BitVec 4) (data : Word) : decodeOpcode op ≠ .conv data := by
  intro hc
  have hop := opcodeOf_decodeOpcode op
  rw [hc] at hop
  cases hop

/-- Settles O45: a write of CMD is a command's cycle, and one of any other register an access. -/
theorem busyWriteIsRejected : Obligations.BusyWriteIsRejected := by
  intro s addr data r hr hh ha hw hcc hop hb hs
  change step s = .next (s.beginCycle.unitStep s.sampled.env).reject
  by_cases hcmd : r = .cmd
  · subst hcmd
    have hd : Sys2Proof.decode s.sampled.host = .ok (decodeOpcode (opcodeField data)) := by
      simp [Sys2Proof.decode, hh, ha]
    rw [step_instr hr hd, exec_command (i := decodeOpcode (opcodeField data)) (decodeOpcode_ne_abort (hop rfl))
      (decodeOpcode_ne_conv _), commandCycle_busy _ hb hs]
  · rw [step_write hr hh ha hcmd hcc hs, hb, hostWrite_busy data _ hw hcc]

/-- An access of the unmapped range is no instruction (10_state.md R44). -/
theorem decode_unmapped {x : HostTxn} {addr : BitVec 8} (ha : regAt addr = none)
    (hx : x = .read addr ∨ ∃ data, x = .write addr data) : Sys2Proof.decode x = .error .unmapped := by
  obtain rfl | ⟨data, rfl⟩ := hx <;> simp [Sys2Proof.decode, ha]

/-- Settles O46: neither access has an effect of its own beside `hrdata`. -/
theorem ignoredAccesses : Obligations.IgnoredAccesses := by
  intro s addr data hr hs
  refine ⟨fun hh hro => ?_, fun hh ha => ?_⟩
  · cases ha : regAt addr with
    | none =>
      rw [step_access hr (decode_unmapped ha (.inr ⟨data, hh⟩)), accessCycle, cycleWith_of_noStray hs, hh]
      simp [hostAccess, ha]
    | some r =>
      have hw := hro r ha
      have hcmd : r ≠ .cmd := by rintro rfl; cases hw
      have hcc : r ≠ .ccIn := by rintro rfl; cases hw
      rw [step_write hr hh ha hcmd hcc hs, hostWrite_readOnly _ _ _ hw]
  · rw [step_access hr (decode_unmapped ha (.inl hh)), accessCycle, cycleWith_of_noStray hs, hh]
    simp only [hostAccess, ha]
    rfl

end Sys2Proof.Machine
end

section
/-!
SUPPORT. The register map and the encoder (O3, O15, O47): PBUF's multi-byte reads as numbers, the register at each address, and the
instruction that each write is (20_memory.md R72 to R74, 30_encoding.md R100 to R103).
-/

namespace Sys2Proof.Machine

/-! ### Multi-byte reads -/

/-- `MemRead(a, 2)` as a number: the byte at the lower address is the upper one (20_memory.md R73). -/
theorem State.memRead2_toNat (s : State) (a : Nat) :
    (s.memRead2 a).toNat = (s.pbufByte a).toNat * 256 + (s.pbufByte (a + 1)).toNat :=
  toNat_append_eq_add (s.pbufByte a) (s.pbufByte (a + 1))

/-- `MemRead(a, 4)` as a number: each byte stands above those at higher addresses (20_memory.md R74). -/
theorem State.memRead4_toNat (s : State) (a : Nat) :
    (s.memRead4 a).toNat = (s.pbufByte a).toNat * 16777216 + (s.pbufByte (a + 1)).toNat * 65536 +
      (s.pbufByte (a + 2)).toNat * 256 + (s.pbufByte (a + 3)).toNat := by
  rw [State.memRead4, toNat_append_eq_add, toNat_append_eq_add, toNat_append_eq_add]
  omega

/-- Settles O15. -/
theorem memReadIsBigEndian : Obligations.MemReadIsBigEndian :=
  fun s a => ⟨s.memRead2_toNat a, s.memRead4_toNat a⟩

/-! ### The register map -/

/-- An access reaches the register at the enclosing word's offset (20_memory.md R72). -/
theorem regAt_word (addr : BitVec 8) : regAt (addr &&& 0xFC) = regAt addr := by
  have hmask : addr &&& 0xFC &&& 0xFC = addr &&& 0xFC := by rw [BitVec.and_assoc, BitVec.and_self]
  rw [regAt, hmask, regAt]

/-- Every register is reached at its offset (10_state.md R26). -/
@[simp] theorem regAt_offset (r : HostReg) : regAt r.offset = some r := by
  cases r <;> rfl

/-- An access reaches a register exactly if the register's offset is the enclosing word's (20_memory.md R72). -/
theorem regAt_eq_some_iff {addr : BitVec 8} {r : HostReg} : regAt addr = some r ↔ r.offset = addr &&& 0xFC := by
  constructor
  · intro h
    rw [regAt] at h
    have hfound := List.find?_some h
    exact eq_of_beq hfound
  · intro h
    rw [← regAt_word, ← h, regAt_offset]

/-- The enclosing word's offset as a number. -/
theorem and_0xFC_toNat (addr : BitVec 8) : (addr &&& 0xFC).toNat = addr.toNat / 4 * 4 := by
  have hmask : (0xFC : BitVec 8) = BitVec.allOnes 8 <<< 2 := by decide
  have hlt := addr.isLt
  rw [hmask, ← BitVec.shiftLeft_ushiftRight, BitVec.toNat_shiftLeft, BitVec.toNat_ushiftRight, Nat.shiftLeft_eq,
    Nat.shiftRight_eq_div_pow]
  omega

/-- The map ends at FBUF_DATA (10_state.md R26). -/
theorem offset_toNat_le (r : HostReg) : r.offset.toNat ≤ 0x64 := by
  cases r <;> decide

/-- The offsets leave no gap: each multiple of 4 up to 0x64 is a register's (10_state.md R26). -/
theorem exists_offset_eq : ∀ k < 26, ∃ r : HostReg, r.offset.toNat = k * 4 := by
  have hall : ∀ k : Fin 26, (HostReg.all[k]).offset.toNat = k.val * 4 := by decide
  exact fun k hk => ⟨_, hall ⟨k, hk⟩⟩

/-- Exactly the addresses from 0x68 on are unmapped (10_state.md R44). -/
theorem regAt_eq_none_iff (addr : BitVec 8) : regAt addr = none ↔ 0x68 ≤ addr.toNat := by
  constructor
  · intro hnone
    by_contra hlt
    obtain ⟨r, hr⟩ := exists_offset_eq (addr.toNat / 4) (by omega)
    have hsome : regAt addr = some r :=
      regAt_eq_some_iff.mpr (BitVec.eq_of_toNat_eq (hr.trans (and_0xFC_toNat addr).symm))
    rw [hnone] at hsome
    cases hsome
  · intro hge
    cases hreg : regAt addr with
    | none => rfl
    | some r =>
      have hle := offset_toNat_le r
      rw [regAt_eq_some_iff.mp hreg, and_0xFC_toNat] at hle
      omega

/-- Settles O47. -/
theorem registerMap : Obligations.RegisterMap :=
  ⟨rfl, rfl, rfl, rfl, rfl, rfl, rfl, rfl, rfl, rfl, rfl, rfl, rfl, rfl, rfl, rfl, rfl, rfl, rfl, rfl, rfl, rfl, rfl, rfl, rfl,
    rfl, fun addr => (regAt_word addr).symm, regAt_offset, regAt_eq_none_iff⟩

/-! ### The encoder -/

/-- CONV's operand as a number: the ignored bits dropped (10_state.md R30). -/
theorem sampleField_toNat (data : Word) : (sampleField data).toNat = data.toNat % 65536 := by
  rw [sampleField, toNat_setWidth_word _ (by decide), BitVec.extractLsb'_toNat, Nat.shiftRight_zero]

/-- An operand has no ignored bits left to drop. -/
@[simp] theorem sampleField_sampleField (data : Word) : sampleField (sampleField data) = sampleField data := by
  apply BitVec.eq_of_toNat_eq
  rw [sampleField_toNat (sampleField data), sampleField_toNat, Nat.mod_mod]

/-- A command word with its ignored bits 0 still holds its opcode (30_encoding.md R100). -/
@[simp] theorem opcodeField_setWidth (op : BitVec 4) : opcodeField (op.setWidth 32) = op := by
  rw [opcodeField, ← BitVec.setWidth_eq_extractLsb' (by decide), BitVec.setWidth_setWidth_of_le _ (by decide),
    BitVec.setWidth_eq]

/-- A command is written as its opcode to CMD (30_encoding.md R100). -/
theorem encode_of_opcodeOf {i : Instr} {op : BitVec 4} (h : opcodeOf i = some op) :
    encode i = .write HostReg.cmd.offset (op.setWidth 32) := by
  cases i with
  | conv data => cases h
  | _ => cases h; rfl

/-- A command has no operand, so nothing in it is ignored (30_encoding.md R100). -/
theorem wellFormed_of_opcodeOf {i : Instr} {op : BitVec 4} (h : opcodeOf i = some op) : i.wellFormed = true := by
  cases i with
  | conv data => cases h
  | _ => rfl

/-- CONV's operand has none of the bits that CC_IN ignores (10_state.md R30). -/
theorem wellFormed_conv_sampleField (data : Word) : (Instr.conv (sampleField data)).wellFormed = true := by
  have hlt : data.toNat % 65536 < 65536 := Nat.mod_lt _ (by decide)
  rw [← sampleField_toNat] at hlt
  exact decide_eq_true hlt

/-- The decoder reads back what the encoder writes, for every instruction (30_encoding.md R100, R103). -/
theorem decode_encode (i : Instr) : Laws.RoundTrip.Statement i := by
  cases i with
  | conv data => exact Laws.RoundTrip.conv data
  | _ => exact fun _ => rfl

/-- What the encoder writes is canonical (20_memory.md R72, 30_encoding.md R100, 10_state.md R30). -/
theorem encode_wellFormed {i : Instr} (h : i.wellFormed = true) : (encode i).wellFormed = true := by
  cases i with
  | conv data => exact h
  | _ => rfl

/-- A transaction is an instruction exactly if it is a write of CMD, with that opcode, or of CC_IN, with that sample
(30_encoding.md R100, R103). -/
theorem decode_eq_ok_iff {t : HostTxn} {i : Instr} :
    Sys2Proof.decode t = .ok i ↔ ∃ addr data, t = .write addr data ∧
      (regAt addr = some .cmd ∧ i = decodeOpcode (opcodeField data) ∨
        regAt addr = some .ccIn ∧ i = .conv (sampleField data)) := by
  constructor
  · intro h
    cases t with
    | idle => cases h
    | read addr => cases hr : regAt addr <;> simp [Sys2Proof.decode, hr] at h
    | write addr data =>
      refine ⟨addr, data, rfl, ?_⟩
      cases hr : regAt addr with
      | none => simp [Sys2Proof.decode, hr] at h
      | some r =>
        by_cases hcmd : r = .cmd
        · subst hcmd
          simp only [Sys2Proof.decode, hr, Except.ok.injEq] at h
          exact .inl ⟨rfl, h.symm⟩
        · by_cases hcc : r = .ccIn
          · subst hcc
            simp only [Sys2Proof.decode, hr, Except.ok.injEq] at h
            exact .inr ⟨rfl, h.symm⟩
          · rw [decode_write data hr hcmd hcc] at h
            cases h
  · rintro ⟨addr, data, rfl, ⟨hr, rfl⟩ | ⟨hr, rfl⟩⟩ <;> simp only [Sys2Proof.decode, hr]

/-- The canonical form of a write of CMD (30_encoding.md R100). -/
theorem canonical_write_cmd {addr : BitVec 8} (data : Word) (h : regAt addr = some .cmd) :
    (HostTxn.write addr data).canonical = .write HostReg.cmd.offset ((opcodeField data).setWidth 32) := by
  simp only [HostTxn.canonical, h]

/-- The canonical form of a write of CC_IN (10_state.md R30). -/
theorem canonical_write_ccIn {addr : BitVec 8} (data : Word) (h : regAt addr = some .ccIn) :
    (HostTxn.write addr data).canonical = .write HostReg.ccIn.offset (sampleField data) := by
  simp only [HostTxn.canonical, h]

/-- An access that is no write of CMD or CC_IN is its own canonical form. -/
theorem canonical_write_other {addr : BitVec 8} (data : Word) (hcmd : regAt addr ≠ some .cmd)
    (hcc : regAt addr ≠ some .ccIn) : (HostTxn.write addr data).canonical = .write addr data := by
  cases hr : regAt addr with
  | none => simp only [HostTxn.canonical, hr]
  | some r =>
    cases r with
    | cmd => exact absurd hr hcmd
    | ccIn => exact absurd hr hcc
    | _ => simp only [HostTxn.canonical, hr]

/-- What the machine ignores makes no difference to the decoder (20_memory.md R72, 30_encoding.md R102, 10_state.md R30). -/
theorem decode_canonical (t : HostTxn) : Sys2Proof.decode t.canonical = Sys2Proof.decode t := by
  cases t with
  | idle => rfl
  | read addr => rfl
  | write addr data =>
    by_cases hcmd : regAt addr = some .cmd
    · rw [canonical_write_cmd data hcmd]
      simp [Sys2Proof.decode, hcmd]
    · by_cases hcc : regAt addr = some .ccIn
      · rw [canonical_write_ccIn data hcc]
        simp [Sys2Proof.decode, hcc]
      · rw [canonical_write_other data hcmd hcc]

/-- The canonical form of an instruction's transaction is what the encoder writes (30_encoding.md R100, R103). -/
theorem wellFormed_and_canonical_of_decode {t : HostTxn} {i : Instr} (h : Sys2Proof.decode t = .ok i) :
    i.wellFormed = true ∧ t.canonical = encode i := by
  obtain ⟨addr, data, rfl, ⟨hr, rfl⟩ | ⟨hr, rfl⟩⟩ := decode_eq_ok_iff.mp h
  · have hop := opcodeOf_decodeOpcode (opcodeField data)
    exact ⟨wellFormed_of_opcodeOf hop, (canonical_write_cmd data hr).trans (encode_of_opcodeOf hop).symm⟩
  · exact ⟨wellFormed_conv_sampleField data, canonical_write_ccIn data hr⟩

/-- Settles O3: the decoder sees only the canonical form, on which the encoder is its inverse. -/
theorem decodeEncodeAgree : Obligations.DecodeEncodeAgree := by
  refine ⟨fun t i => ⟨wellFormed_and_canonical_of_decode, ?_⟩, fun i hwf => ⟨encode_wellFormed hwf, decode_encode i hwf⟩⟩
  rintro ⟨hwf, hcanon⟩
  calc Sys2Proof.decode t = Sys2Proof.decode t.canonical := (decode_canonical t).symm
    _ = Sys2Proof.decode (encode i) := by rw [hcanon]
    _ = .ok i := decode_encode i hwf

end Sys2Proof.Machine
end

section
/-!
SUPPORT. The decoder on words written out (O2): the two writes that are instructions, a command's at any of CMD's four addresses
(20_memory.md R72, 30_encoding.md R100, R101) and a sample's at CC_IN (30_encoding.md R103).
-/

namespace Sys2Proof.Machine

/-- The four addresses 0x00 to 0x03 are CMD's (20_memory.md R72). -/
theorem regAt_eq_cmd_iff {addr : BitVec 8} : regAt addr = some .cmd ↔ addr.toNat < 4 := by
  have hoff : HostReg.cmd.offset.toNat = 0 := rfl
  rw [regAt_eq_some_iff, ← BitVec.toNat_inj, and_0xFC_toNat, hoff]
  omega

/-- A write at one of CMD's addresses is the command of its opcode (30_encoding.md R100, R101). -/
theorem decode_write_cmd {addr : BitVec 8} {data : Word} {i : Instr} (ha : addr.toNat < 4)
    (hi : i = decodeOpcode (opcodeField data)) : Sys2Proof.decode (.write addr data) = .ok i :=
  decode_eq_ok_iff.mpr ⟨addr, data, rfl, .inl ⟨regAt_eq_cmd_iff.mpr ha, hi⟩⟩

/-- A write of CC_IN is the CONV of its low 16 bits (30_encoding.md R103, 10_state.md R30). -/
theorem decode_write_ccIn (data : Word) :
    Sys2Proof.decode (.write HostReg.ccIn.offset data) = .ok (.conv (sampleField data)) :=
  decode_eq_ok_iff.mpr ⟨_, data, rfl, .inr ⟨regAt_offset .ccIn, rfl⟩⟩

/-- Settles O2: the commands differ only in their opcode, and CONV's operand loses bits [31:16]. -/
theorem specWordsDecode : Obligations.SpecWordsDecode := by
  have hword : (0x00 : BitVec 8).toNat < 4 := by decide
  have hbyte : (0x03 : BitVec 8).toNat < 4 := by decide
  exact ⟨decode_write_cmd hword rfl, decode_write_cmd hword rfl, decode_write_cmd hword rfl, decode_write_cmd hword rfl,
    decode_write_cmd hword rfl, decode_write_cmd hbyte rfl, decode_write_cmd hword rfl, decode_write_ccIn 0x1234F800⟩

end Sys2Proof.Machine
end

section
/-!
SUPPORT. Color conversion (O4 to O7): the fields of a sample and the scaled channels as numbers, and the cycle of a CONV with no
command running (40_color_codec.md R141 to R146).
-/

namespace Sys2Proof.Machine

/-! ### The fields of a sample -/

/-- `s[15:11]` as a number (30_encoding.md R105). -/
theorem red5_toNat (s : Half) : (red5 s).toNat = s.toNat / 2048 := by
  have hlt := s.isLt
  rw [red5, BitVec.extractLsb'_toNat, Nat.shiftRight_eq_div_pow]
  omega

/-- `s[10:5]` as a number (30_encoding.md R105). -/
theorem green6_toNat (s : Half) : (green6 s).toNat = s.toNat / 32 % 64 := by
  rw [green6, BitVec.extractLsb'_toNat, Nat.shiftRight_eq_div_pow]

/-- `s[4:0]` as a number (30_encoding.md R105). -/
theorem blue5_toNat (s : Half) : (blue5 s).toNat = s.toNat % 32 := by
  rw [blue5, BitVec.extractLsb'_toNat, Nat.shiftRight_zero]

/-! ### The scaled channels -/

/-- A 5-bit field needs no division: the error of `1053 / 128` against `255 / 31` never reaches the next integer
(40_color_codec.md R146). -/
theorem scale5_eq_mul_shift (x : BitVec 5) : (scale5 x).toNat = (x.toNat * 1053) >>> 7 := by
  have hx := x.isLt
  rw [scale5_toNat, Nat.shiftRight_eq_div_pow]
  omega

/-- The same of a 6-bit field, with `4145 / 1024` for `255 / 63` (R146). -/
theorem scale6_eq_mul_shift (x : BitVec 6) : (scale6 x).toNat = (x.toNat * 4145) >>> 10 := by
  have hx := x.isLt
  rw [scale6_toNat, Nat.shiftRight_eq_div_pow]
  omega

/-- A truncated scaling by a ratio of at least 1 is strictly increasing: one more in the field adds at least one divisor to the
product. -/
theorem strictMono_mul_div {k d : Nat} (hd : 0 < d) (hk : d ≤ k) : StrictMono fun x : Nat => x * k / d := by
  refine strictMono_nat_of_lt_succ fun x => ?_
  calc x * k / d < x * k / d + 1 := Nat.lt_succ_self _
    _ = (x * k + d) / d := (Nat.add_div_right _ hd).symm
    _ ≤ (x + 1) * k / d := Nat.div_le_div_right (by rw [Nat.succ_mul]; omega)

/-- The scaling of a 5-bit field keeps the strict order (40_color_codec.md R144). -/
theorem scale5_lt_scale5_iff {x y : BitVec 5} : scale5 x < scale5 y ↔ x < y := by
  rw [BitVec.lt_def, BitVec.lt_def, scale5_toNat, scale5_toNat]
  exact (strictMono_mul_div (by decide) (by decide)).lt_iff_lt

/-- The scaling of a 6-bit field keeps the strict order (R144). -/
theorem scale6_lt_scale6_iff {x y : BitVec 6} : scale6 x < scale6 y ↔ x < y := by
  rw [BitVec.lt_def, BitVec.lt_def, scale6_toNat, scale6_toNat]
  exact (strictMono_mul_div (by decide) (by decide)).lt_iff_lt

/-- Settles O4: a channel is its field's scaling by definition, and the tables are the two scalings evaluated at every input. -/
theorem scaleTables : Obligations.ScaleTables :=
  ⟨fun _ => ⟨rfl, rfl, rfl⟩, by decide, by decide⟩

/-- Settles O5. -/
theorem convEqualsMultiplyShift : Obligations.ConvEqualsMultiplyShift := by
  intro s
  rw [← red5_toNat, ← green6_toNat, ← blue5_toNat]
  exact ⟨scale5_eq_mul_shift _, scale6_eq_mul_shift _, scale5_eq_mul_shift _⟩

/-- Settles O6. -/
theorem convChannelsIncrease : Obligations.ConvChannelsIncrease :=
  fun _ _ => ⟨scale5_lt_scale5_iff, scale6_lt_scale6_iff, scale5_lt_scale5_iff⟩

/-! ### CONV with no command running -/

/-- With no command running, CONV's cycle is the write of CC_IN alone (40_color_codec.md R142). -/
theorem exec_conv_idle (data : Word) {s : State} (hb : s.status.busy = false) :
    exec (.conv data) s = .next (s.beginCycle.setCcIn data) :=
  (exec_conv data s).trans (cycleWith_idle hb)

/-- CC_OUT after CC_IN has taken a word: the conversion of the word's low 16 bits (10_state.md R30, R31). -/
theorem readReg_ccOut_setCcIn_toNat (linkUp : Bool) (data : Word) (s : State) :
    (readReg linkUp .ccOut (s.setCcIn data)).toNat =
      data.toNat / 2048 % 32 * 255 / 31 * 65536 + data.toNat / 32 % 64 * 255 / 63 * 256 +
        data.toNat % 32 * 255 / 31 := by
  have hin : (s.setCcIn data).regs.ccIn.toNat = data.toNat % 65536 := by
    rw [State.setCcIn_regs, BitVec.toNat_setWidth]
  have hred : data.toNat % 65536 / 2048 = data.toNat / 2048 % 32 := by omega
  have hgreen : data.toNat % 65536 / 32 % 64 = data.toNat / 32 % 64 := by omega
  have hblue : data.toNat % 65536 % 32 = data.toNat % 32 := by omega
  rw [readReg_ccOut_toNat, hin, hred, hgreen, hblue]

/-- Settles O7. -/
theorem convSetsCcOut : Obligations.ConvSetsCcOut := by
  intro s data hb
  refine ⟨_, exec_conv_idle data hb, ?_, fun linkUp => readReg_ccOut_setCcIn_toNat linkUp data s.beginCycle, rfl, rfl,
    sameMemory_of_eq rfl rfl, ⟨rfl, rfl⟩, ?_⟩
  · rw [State.setCcIn_regs, State.beginCycle_regs, BitVec.setWidth_eq_extractLsb' (by decide)]
  · rw [QuietPorts, State.setCcIn_out, State.beginCycle_out, State.ports_idle _ hb]
    exact ⟨rfl, rfl⟩

end Sys2Proof.Machine
end

section
/-!
SUPPORT. PARSE's commit (O17, O18; 41_header_parser.md R160 to R168): what it makes of the operands, one equation for each end that
R167 orders, and the cycle that commits.
-/

namespace Sys2Proof.Machine

/-- The version tag is 1 if its two bytes are 0 and 1 (20_memory.md R73, 41_header_parser.md R163). -/
theorem State.memRead2_eq_one_iff (s : State) (a : Nat) :
    s.memRead2 a = 1 ↔ s.pbufByte a = 0 ∧ s.pbufByte (a + 1) = 1 := by
  have hhigh := (s.pbufByte a).isLt
  have hlow := (s.pbufByte (a + 1)).isLt
  rw [← BitVec.toNat_inj, ← BitVec.toNat_inj, ← BitVec.toNat_inj, State.memRead2_toNat]
  simp only [BitVec.ofNat_eq_ofNat, BitVec.toNat_ofNat]
  omega

/-- R161: the source does not fit PBUF. -/
theorem State.parseCommit_oversize {s : State} (hbig : Config.pbufBytes < s.regs.srcLen.toNat) :
    s.parseCommit = s.raise .configInvalid :=
  if_pos hbig

section
variable {s : State} {c0 len : Nat} (hc0 : c0 = s.regs.cursor.toNat) (hlen : len = s.regs.srcLen.toNat)
  (hfit : ¬ Config.pbufBytes < len)
include hc0 hlen hfit

/-- R162, R164: the source ends before the tag does. -/
theorem State.parseCommit_noTag (hshort : len < c0 + 2) :
    s.parseCommit = (s.setCursor (max c0 len)).raise .truncatedHeader := by
  subst hc0 hlen
  exact (if_neg hfit).trans (if_pos hshort)

/-- R163: a tag other than 1 is kept in HDR_VERSION. -/
theorem State.parseCommit_otherVersion (htag : ¬ len < c0 + 2) (hversion : s.memRead2 c0 ≠ 1) :
    s.parseCommit = ((s.setHdrVersion (s.memRead2 c0)).setCursor (c0 + 2)).raise .unsupportedFormatVersion := by
  subst hc0 hlen
  exact (if_neg hfit).trans ((if_neg htag).trans (if_pos hversion))

variable (htag : ¬ len < c0 + 2) (hversion : s.memRead2 c0 = 1)
include htag hversion

/-- With a tag of 1, the header's length and its geometry are left to check (R167). -/
theorem State.parseCommit_tagged :
    s.parseCommit =
      if len < c0 + 32 then ((s.setHdrVersion 1).setCursor len).raise .truncatedHeader
      else if s.memRead4 (c0 + 2) = 0 ∨ s.memRead4 (c0 + 6) = 0 then
        ((s.setHdrVersion 1).setCursor (c0 + 32)).raise .invalidGeometry
      else (((s.setHdrVersion 1).setCursor (c0 + 32)).acceptHeader c0).finish := by
  subst hc0 hlen
  refine (if_neg hfit).trans ((if_neg htag).trans ((if_neg (not_not_intro hversion)).trans ?_))
  rw [hversion]
  rfl

/-- R162, R164: the source ends between the tag and the header's last byte. -/
theorem State.parseCommit_truncated (hshort : len < c0 + 32) :
    s.parseCommit = ((s.setHdrVersion 1).setCursor len).raise .truncatedHeader :=
  (State.parseCommit_tagged hc0 hlen hfit htag hversion).trans (if_pos hshort)

/-- R165: the header is whole, and its WIDTH or HEIGHT is 0. -/
theorem State.parseCommit_noGeometry (hfull : ¬ len < c0 + 32)
    (hgeometry : s.memRead4 (c0 + 2) = 0 ∨ s.memRead4 (c0 + 6) = 0) :
    s.parseCommit = ((s.setHdrVersion 1).setCursor (c0 + 32)).raise .invalidGeometry :=
  (State.parseCommit_tagged hc0 hlen hfit htag hversion).trans ((if_neg hfull).trans (if_pos hgeometry))

/-- R166: no check fails. -/
theorem State.parseCommit_accepts (hfull : ¬ len < c0 + 32)
    (hgeometry : ¬ (s.memRead4 (c0 + 2) = 0 ∨ s.memRead4 (c0 + 6) = 0)) :
    s.parseCommit = (((s.setHdrVersion 1).setCursor (c0 + 32)).acceptHeader c0).finish :=
  (State.parseCommit_tagged hc0 hlen hfit htag hversion).trans ((if_neg hfull).trans (if_neg hgeometry))

end

@[simp] theorem State.parseCommit_int (s : State) : s.parseCommit.int = Internal.zero := by
  obtain ⟨e, c, v, h⟩ | h := s.parseCommit_cases <;> rw [h] <;> rfl

/-- The cycle in which a PARSE ends writes no memory and moves no byte (R169). -/
theorem beginCycle_parseCommit_frame (s : State) :
    SameMemory s s.beginCycle.parseCommit ∧ NoByteMoved s s.beginCycle.parseCommit :=
  ⟨sameMemory_of_eq s.beginCycle.parseCommit_pbuf s.beginCycle.parseCommit_fbuf, s.beginCycle.parseCommit_txSent,
    s.beginCycle.parseCommit_rxQueue⟩

/-- Settles O17: no check of R167 fails, so the commit accepts the header. -/
theorem parseSuccess : Obligations.ParseSuccess := by
  intro s c0 len hending hc0 hlen hfit hfull hhigh hlow hwidth hheight
  obtain ⟨hmem, hbytes⟩ := beginCycle_parseCommit_frame s
  have hversion : s.memRead2 c0 = 1 := (s.memRead2_eq_one_iff c0).mpr ⟨hhigh, hlow⟩
  have hcommit := State.parseCommit_accepts (s := s.beginCycle) hc0 hlen (by omega) (by omega) hversion (by omega)
    (not_or.mpr ⟨hwidth, hheight⟩)
  refine ⟨_, step_parseEnding hending, ?_, ?_, ?_, hmem, hbytes⟩
  · rw [hcommit, hlen]; rfl
  · rw [hcommit]; rfl
  · rw [State.parseCommit_int]; exact ⟨rfl, rfl, rfl, rfl, rfl⟩

/-- Settles O18: the statement's cases are those of the commit, in R167's order. -/
theorem parseErrors : Obligations.ParseErrors := by
  intro s c0 len hending hc0 hlen
  obtain ⟨hmem, hbytes⟩ := beginCycle_parseCommit_frame s
  refine ⟨_, step_parseEnding hending, hmem, hbytes, ?_⟩
  split
  next hbig =>
    rw [State.parseCommit_oversize (s := s.beginCycle) (hlen ▸ hbig)]
    exact ⟨rfl, rfl⟩
  next hfit =>
  split
  next hshort =>
    rw [State.parseCommit_noTag (s := s.beginCycle) hc0 hlen hfit hshort]
    exact ⟨rfl, rfl⟩
  next htag =>
  split
  next htagBytes =>
    have hversion : s.memRead2 c0 ≠ 1 := mt (s.memRead2_eq_one_iff c0).mp htagBytes
    rw [State.parseCommit_otherVersion (s := s.beginCycle) hc0 hlen hfit htag hversion]
    exact ⟨rfl, rfl⟩
  next htagBytes =>
  have hversion : s.memRead2 c0 = 1 := (s.memRead2_eq_one_iff c0).mpr (not_not.mp htagBytes)
  split
  next hshort =>
    rw [State.parseCommit_truncated (s := s.beginCycle) hc0 hlen hfit htag hversion hshort]
    exact ⟨rfl, rfl⟩
  next hfull =>
  split
  next hgeometry =>
    rw [State.parseCommit_noGeometry (s := s.beginCycle) hc0 hlen hfit htag hversion hfull hgeometry]
    exact ⟨rfl, rfl⟩
  next hgeometry =>
    rw [State.parseCommit_accepts (s := s.beginCycle) hc0 hlen hfit htag hversion hfull hgeometry]
    rfl

end Sys2Proof.Machine
end

section
/-!
SUPPORT. The run of a PARSE (O19; 44_control_commands.md R250, R251, 10_state.md R45): while PARSE or DECODE runs, the host and the
channel reach nothing that the command reads, so it counts its cycles down and commits the operands of its start. `FrameCommand` says
what the run needs to know of the command, which is the same of both.
-/

namespace Sys2Proof.Machine

/-! ### What a cycle may change beside a running command -/

/-- `p` with what an accepted access and the channel may change while PARSE or DECODE runs, as `x` has it: CC_IN and REJECTED
(10_state.md R45), the receive queue, the ports, and the model's inputs and cycle count. -/
def State.withSurroundings (x p : State) : State :=
  { p with
    regs := { p.regs with ccIn := x.regs.ccIn }
    status := { p.status with rejected := x.status.rejected }
    rxQueue := x.rxQueue
    out := x.out
    inputs := x.inputs
    cycle := x.cycle }

/-- `u` is `p` in all that PARSE and DECODE read or write. -/
def State.AgreesWith (u p : State) : Prop :=
  u = State.withSurroundings u p

theorem State.agreesWith_withSurroundings (x p : State) : (State.withSurroundings x p).AgreesWith p := rfl

theorem State.agreesWith_beginCycle (s : State) : s.beginCycle.AgreesWith s := rfl

namespace State.AgreesWith
variable {t u p : State}

theorem trans (htu : t.AgreesWith u) (hup : u.AgreesWith p) : t.AgreesWith p := by
  unfold State.AgreesWith at hup
  rw [hup] at htu
  exact htu

theorem eq (h : u.AgreesWith p) : u = State.withSurroundings u p := h

theorem regs (h : u.AgreesWith p) : u.regs = { p.regs with ccIn := u.regs.ccIn } := congrArg State.regs h
theorem status (h : u.AgreesWith p) : u.status = { p.status with rejected := u.status.rejected } :=
  congrArg State.status h
theorem int (h : u.AgreesWith p) : u.int = p.int := (congrArg State.int h.eq).trans rfl
theorem pbuf (h : u.AgreesWith p) : u.pbuf = p.pbuf := (congrArg State.pbuf h.eq).trans rfl
theorem fbuf (h : u.AgreesWith p) : u.fbuf = p.fbuf := (congrArg State.fbuf h.eq).trans rfl
theorem txSent (h : u.AgreesWith p) : u.txSent = p.txSent := (congrArg State.txSent h.eq).trans rfl

end State.AgreesWith

/-- The host's transaction in a cycle with a command running, if it is no ABORT, reaches CC_IN, REJECTED and `hrdata` alone. -/
theorem BusyEffect.agreesWith {x : HostTxn} {s u t : State} (h : BusyEffect x s u t)
    (hx : Sys2Proof.decode x ≠ .ok .abort) : t.AgreesWith u ∧ t.inputs = u.inputs := by
  cases h with
  | none | reject | read | conv => exact ⟨rfl, rfl⟩
  | cancel hd => exact absurd hd hx

theorem undisturbed_iff {i : CycleIn} :
    undisturbed i = true ↔ i.rst = false ∧ Sys2Proof.decode i.host ≠ .ok .abort := by
  unfold undisturbed
  rw [Bool.and_eq_true, Bool.not_eq_true']
  refine and_congr_right fun _ => ?_
  split
  next h => simp [h]
  next i hne h => simpa [h] using hne
  next n h => simp [h]

/-- A cycle without reset and without a stray store answers a next state. -/
theorem step_isNext {s : State} (hr : s.sampled.rst = false) (hs : s.beginCycle.strayStore s.sampled.env = none) :
    ∃ t, step s = .next t := by
  cases hd : Sys2Proof.decode s.sampled.host with
  | error n => exact ⟨_, (step_access hr hd).trans (cycleWith_of_noStray hs)⟩
  | ok i =>
    rw [step_instr hr hd]
    by_cases ha : i = .abort
    · subst ha
      exact ⟨_, (exec_abort s).trans (cycleWith_of_noStray hs)⟩
    by_cases hc : ∃ data, i = .conv data
    · obtain ⟨data, rfl⟩ := hc
      exact ⟨_, (exec_conv data s).trans (cycleWith_of_noStray hs)⟩
    · exact ⟨_, (exec_command ha (not_exists.mp hc) s).trans (cycleWith_of_noStray hs)⟩

/-- An undisturbed cycle of a running PARSE or DECODE: the unit's step, whatever the host and the channel do. -/
theorem step_undisturbed {s : State} (hb : s.status.busy = true) (hl : s.status.lfState = .idle)
    (hi : undisturbed s.sampled = true) :
    ∃ t, step s = .next t ∧ t.AgreesWith (s.beginCycle.unitStep s.sampled.env) ∧
      t.inputs = (s.beginCycle.unitStep s.sampled.env).inputs := by
  obtain ⟨hr, hx⟩ := undisturbed_iff.mp hi
  have hstay : s.beginCycle.strayStore s.sampled.env = none :=
    State.strayStore_of_ne_read _ (by rw [State.beginCycle_status, hl]; decide)
  obtain ⟨t, ht⟩ := step_isNext hr hstay
  exact ⟨t, ht, (step_busy_effect ht hr hb).agreesWith hx⟩

/-! ### The cycles of a frame command -/

/-- The command `op` runs in HPU or FDU: LFE is idle (10_state.md R25). -/
structure State.RunsFrame (op : BitVec 4) (s : State) : Prop where
  busy : s.status.busy = true
  lfState : s.status.lfState = .idle
  lastCmd : s.status.lastCmd = op

theorem State.RunsFrame.of_agreesWith {op : BitVec 4} {u p : State} (h : p.RunsFrame op) (hu : u.AgreesWith p) :
    u.RunsFrame op := by
  obtain ⟨hb, hl, hop⟩ := h
  constructor <;> rw [hu.status] <;> assumption

/-- `I.lat` counts a cycle (44_control_commands.md R251). -/
def State.countCycle (s : State) : State :=
  { s with int := { s.int with lat := s.int.lat - 1 } }

/-- The command `op` counts its cycles and ends by `commit`, which reads neither `I.lat` nor what the surroundings change. -/
structure FrameCommand (op : BitVec 4) (commit : State → State) : Prop where
  unitStep : ∀ (env : EnvIn) (s : State), s.RunsFrame op →
    s.unitStep env = if s.int.lat ≤ 1 then commit s else s.countCycle
  countCycle : ∀ s, commit s.countCycle = commit s
  withSurroundings : ∀ x s, commit (State.withSurroundings x s) = State.withSurroundings x (commit s)

namespace FrameCommand
variable {op : BitVec 4} {commit : State → State} {s u p : State}

/-- The commits of states that agree agree. -/
theorem commit_agreesWith (hcmd : FrameCommand op commit) (h : u.AgreesWith p) : (commit u).AgreesWith (commit p) := by
  unfold State.AgreesWith at h
  rw [h, hcmd.withSurroundings]
  exact State.agreesWith_withSurroundings _ _

/-- A commit takes no input. -/
theorem commit_inputs (hcmd : FrameCommand op commit) (s : State) : (commit s).inputs = s.inputs :=
  (congrArg State.inputs (hcmd.withSurroundings s s)).trans rfl

/-- The last cycle of a frame command. -/
theorem step_ends (hcmd : FrameCommand op commit) (hrun : s.RunsFrame op) (hi : undisturbed s.sampled = true)
    (hlat : s.int.lat ≤ 1) : ∃ t, step s = .next t ∧ t.AgreesWith (commit s) ∧ t.inputs = s.inputs.tail := by
  obtain ⟨t, hstep, hagree, hinputs⟩ := step_undisturbed hrun.busy hrun.lfState hi
  have hunit : s.beginCycle.unitStep s.sampled.env = commit s.beginCycle :=
    (hcmd.unitStep _ _ (hrun.of_agreesWith s.agreesWith_beginCycle)).trans (if_pos hlat)
  rw [hunit] at hagree hinputs
  exact ⟨t, hstep, hagree.trans (hcmd.commit_agreesWith s.agreesWith_beginCycle),
    hinputs.trans (hcmd.commit_inputs s.beginCycle)⟩

/-- A cycle of a frame command before its last. -/
theorem step_counts (hcmd : FrameCommand op commit) (hrun : s.RunsFrame op) (hi : undisturbed s.sampled = true)
    (hlat : ¬ s.int.lat ≤ 1) : ∃ t, step s = .next t ∧ t.AgreesWith s.countCycle ∧ t.inputs = s.inputs.tail := by
  obtain ⟨t, hstep, hagree, hinputs⟩ := step_undisturbed hrun.busy hrun.lfState hi
  have hunit : s.beginCycle.unitStep s.sampled.env = s.beginCycle.countCycle :=
    (hcmd.unitStep _ _ (hrun.of_agreesWith s.agreesWith_beginCycle)).trans (if_neg hlat)
  rw [hunit] at hagree hinputs
  exact ⟨t, hstep, hagree.trans rfl, hinputs⟩

end FrameCommand

/-! ### The run to the commit -/

/-- The first step of a run. -/
theorem core_run_succ {s t : State} (h : step s = .next t) (k : Nat) :
    Sys2Proof.core.run (k + 1) s = Sys2Proof.core.run k t := by
  have hcore : Sys2Proof.core.step s = .next t := h
  simp only [Host.Core.run, hcore]

theorem State.sampled_of_inputs {s : State} {i : CycleIn} {rest : List CycleIn} (h : s.inputs = i :: rest) :
    s.sampled = i := by
  unfold State.sampled
  rw [h]

/-- A running frame command ends in exactly the undisturbed cycles that `I.lat` has left, with the commit of its operands: `first` and
`mid` are the inputs of those cycles, and all but the last count. -/
theorem FrameCommand.run {op : BitVec 4} {commit : State → State} (hcmd : FrameCommand op commit) {rest : List CycleIn}
    (mid : List CycleIn) : ∀ (first : CycleIn) (u : State), u.RunsFrame op → u.inputs = first :: (mid ++ rest) →
      mid.length + 1 = u.int.lat → (∀ i ∈ first :: mid, undisturbed i = true) →
      ∃ t, Sys2Proof.core.run (mid.length + 1) u = .next t ∧ t.AgreesWith (commit u) ∧ t.inputs = rest := by
  induction mid with
  | nil =>
    intro first u hrun hin hlat hall
    have hi : undisturbed u.sampled = true := State.sampled_of_inputs hin ▸ hall first List.mem_cons_self
    obtain ⟨t, hstep, hagree, hinputs⟩ := hcmd.step_ends hrun hi hlat.ge
    exact ⟨t, core_run_succ hstep 0, hagree, by rw [hinputs, hin]; rfl⟩
  | cons second mid ih =>
    intro first u hrun hin hlat hall
    have hi : undisturbed u.sampled = true := State.sampled_of_inputs hin ▸ hall first List.mem_cons_self
    rw [List.length_cons] at hlat
    obtain ⟨v, hstep, hagree, hinputs⟩ := hcmd.step_counts hrun hi (by omega)
    have hrun' : u.countCycle.RunsFrame op := ⟨hrun.busy, hrun.lfState, hrun.lastCmd⟩
    have hlat' : mid.length + 1 = v.int.lat := by
      rw [hagree.int, State.countCycle, ← hlat]
      rfl
    obtain ⟨t, hrest, hcommit, hleft⟩ := ih second v (hrun'.of_agreesWith hagree) (by rw [hinputs, hin]; rfl) hlat'
      fun i hi => hall i (List.mem_cons_of_mem _ hi)
    refine ⟨t, (core_run_succ hstep _).trans hrest, ?_, hleft⟩
    rw [← hcmd.countCycle u]
    exact hcommit.trans (hcmd.commit_agreesWith hagree)

/-! ### PARSE -/

theorem State.parseCommit_withSurroundings (x s : State) :
    (State.withSurroundings x s).parseCommit = State.withSurroundings x s.parseCommit := by
  unfold State.parseCommit
  dsimp only
  simp only [apply_ite (State.withSurroundings x)]
  rfl

/-- A commit clears `I.lat` unread. -/
theorem State.parseCommit_countCycle (s : State) : s.countCycle.parseCommit = s.parseCommit := rfl

theorem frameCommand_parse : FrameCommand 1 State.parseCommit where
  unitStep env s hrun := by
    obtain ⟨hb, hl, hop⟩ := hrun
    simp only [State.unitStep, hb, hl, hop, if_true]
    rfl
  countCycle := State.parseCommit_countCycle
  withSurroundings := State.parseCommit_withSurroundings

/-- Settles O19: the first cycle starts the command on the operands of `s`, and the run of its `P_PARSE_LATENCY` cycles commits
them. -/
theorem parseRunsToItsOutcome : Obligations.ParseRunsToItsOutcome := by
  intro s r first mid rest hidle hlf hin hfirst hdecode hlength hall hr
  have hsampled : s.sampled = first := State.sampled_of_inputs hin
  have hstart : step s = .next (startParse s.beginCycle) := by
    rw [step_instr (by rw [hsampled, hfirst]) (by rw [hsampled, hdecode]), exec_parse, commandCycle_idle _ hidle]
  have hrun : (startParse s.beginCycle).RunsFrame 1 := ⟨rfl, hlf, rfl⟩
  have hinputs : (startParse s.beginCycle).inputs = mid ++ rest := congrArg List.tail hin
  obtain ⟨second, later, rfl⟩ : ∃ second later, mid = second :: later :=
    List.exists_cons_of_length_eq_add_one hlength
  obtain ⟨t, ht, hagree, hleft⟩ := frameCommand_parse.run later second _ hrun hinputs hlength hall
  have hcommit : t.AgreesWith r := by
    rw [hr]
    exact hagree.trans (frameCommand_parse.commit_agreesWith rfl)
  refine ⟨t, (core_run_succ hstart _).trans (hlength ▸ ht), hcommit.regs, hcommit.status, ?_, ?_, ?_,
    sameMemory_of_eq ?_ ?_, ?_, hleft⟩
  · rw [hcommit.status, hr]
    exact State.parseCommit_busy _
  · obtain ⟨e, hv, hdone⟩ := (startParse s).parseCommit_status
    rw [hcommit.status, hr, hdone]
  · rw [hcommit.int, hr, State.parseCommit_int]
    exact ⟨rfl, rfl, rfl, rfl, rfl⟩
  · rw [hcommit.pbuf, hr, State.parseCommit_pbuf]
    rfl
  · rw [hcommit.fbuf, hr, State.parseCommit_fbuf]
    rfl
  · rw [hcommit.txSent, hr, State.parseCommit_txSent]
    rfl

end Sys2Proof.Machine
end

section
/-!
SUPPORT. The link engine's cycles (O26 to O31): what the channel does in a cycle of each kind of state, how a pulse is counted, and the
engine's step in each state as an equation (42_link_framer.md R182 to R199).
-/

namespace Sys2Proof.Machine

/-! ### The channel in a cycle of the engine -/

section
variable {s t : State} {st : LfState}

/-- In a TX_ state the byte `I.txi` is offered and moves with `tx_ready`; none is consumed. -/
theorem EngineIn.channel_word {w : List Byte} (h : EngineIn st s) (hw : controlWord st = some w) (hstep : step s = .next t) :
    t.out.txValid = true ∧ t.out.txData = w.getD s.int.txi 0 ∧ t.out.rxReady = false ∧
      t.txSent = s.txSent ++ (if s.sampled.env.txReady then [w.getD s.int.txi 0] else []) ∧
      t.rxQueue = applyRx s.sampled.env.rx s.rxQueue := by
  obtain ⟨hr, _, hb, rfl, hup⟩ := h
  obtain ⟨htx, hrx, hout⟩ := step_handshake hstep hr
  rw [hup, State.ports_word hb hw] at hout
  rw [hout] at htx hrx ⊢
  exact ⟨rfl, rfl, rfl, htx, hrx⟩

/-- In a state that consumes, the presented byte, if any, leaves the queue, and none is sent. -/
theorem EngineIn.channel_takes (h : EngineIn st s) (hc : consumesRx st = true) (hstep : step s = .next t) :
    t.out.rxReady = true ∧ t.txSent = s.txSent ∧ t.rxQueue = (applyRx s.sampled.env.rx s.rxQueue).tail := by
  obtain ⟨hr, _, hb, rfl, hup⟩ := h
  obtain ⟨htx, hrx, hout⟩ := step_handshake hstep hr
  rw [hup, State.ports_noWord hb (controlWord_of_consumesRx hc), hc] at hout
  rw [hout] at htx hrx ⊢
  rw [State.beginCycle_rxQueue] at hrx
  refine ⟨rfl, by simpa using htx, ?_⟩
  cases hq : applyRx s.sampled.env.rx s.rxQueue <;> simpa [hq] using hrx

/-- In POLL and CHECK no byte moves. -/
theorem EngineIn.channel_still (h : EngineIn st s) (hw : controlWord st = none) (hc : consumesRx st = false)
    (hstep : step s = .next t) : NoByteMoved s t := by
  obtain ⟨hr, _, hb, rfl, hup⟩ := h
  obtain ⟨htx, hrx, hout⟩ := step_handshake hstep hr
  rw [hup, State.ports_noWord hb hw, hc] at hout
  rw [hout] at htx hrx
  exact ⟨by simpa using htx, hrx⟩

end

/-! ### The count of a pulse -/

/-- A pulse is not counted in a cycle that ends the command, nor in TX_READY and POLL (42_link_framer.md R193). -/
theorem State.countElapsed_of_not {st : LfState} {u : State} (tickMs : Bool)
    (h : u.status.busy = false ∨ countsElapsed st = false) : u.countElapsed tickMs st = u := by
  unfold State.countElapsed
  obtain h | h := h <;> simp [h]

/-- In the other states a pulse is counted in a cycle that goes on. -/
theorem State.countElapsed_counts {st : LfState} {s u : State} (hc : countsElapsed st = true) (hb : u.status.busy = true)
    (he : u.regs.elapsedMs = s.regs.elapsedMs) :
    (u.countElapsed s.sampled.env.tickMs st).regs = { u.regs with elapsedMs := tickedElapsed s } := by
  rw [State.countElapsed_regs, tickedElapsed, ← he]
  cases s.sampled.env.tickMs <;> simp [hc, hb]

/-- The engine's cycle in a state that stores nothing. -/
theorem step_engine_storeless {s : State} {st : LfState} (h : EngineIn st s) (hf : isFetchState st = true) (hne : st ≠ .read) :
    step s = .next ((s.beginCycle.fetchStep s.sampled.env).countElapsed s.sampled.env.tickMs st) :=
  step_engine h hf (State.strayStore_of_ne_read _ (by obtain ⟨_, _, _, rfl, _⟩ := h; exact hne))

/-! ### The engine's step, state by state -/

/-- Where the last byte of the control word of `st` leads (42_link_framer.md R186, R199). -/
def State.wordSent : LfState → State → State
  | .txReady => State.goto .poll
  | .txContinue => fun t => t.goto (if t.morePackets then .check else .txEnd)
  | .txRetry => fun t => t.countRetry.goto .check
  | .txEnd => State.fetchSuccess
  | .idle | .poll | .announce | .check | .read | .flush => id

/-- A cycle of `st` in which `tx_ready` is 0 (R192). -/
def State.stalled : LfState → State → State
  | .txContinue | .txRetry => State.stallBeforeLast
  | .idle | .txReady | .poll | .announce | .check | .read | .txEnd | .flush => id

/-- In a TX_ state the engine sends the state's word. -/
theorem State.fetchStep_word {s : State} {w : List Byte} (env : EnvIn) (hw : controlWord s.status.lfState = some w) :
    s.fetchStep env =
      sendWord w env.txReady (State.wordSent s.status.lfState) (State.stalled s.status.lfState) s := by
  unfold State.fetchStep
  cases hl : s.status.lfState <;> rw [hl] at hw <;> cases hw
  case txContinue =>
    dsimp only
    congr 1
    funext t
    exact (apply_ite (fun st => State.goto st t) _ _ _).symm
  all_goals rfl

theorem State.fetchStep_poll {s : State} (env : EnvIn) (h : s.status.lfState = .poll) : s.fetchStep env = s.pollStep := by
  simp [State.fetchStep, h]

theorem State.fetchStep_announce {s : State} (env : EnvIn) (h : s.status.lfState = .announce) :
    s.fetchStep env = s.announceStep := by
  simp [State.fetchStep, h]

theorem State.fetchStep_check {s : State} (env : EnvIn) (h : s.status.lfState = .check) :
    s.fetchStep env = s.checkStep := by
  simp [State.fetchStep, h]

theorem State.fetchStep_read {s : State} (env : EnvIn) (h : s.status.lfState = .read) :
    s.fetchStep env = s.readStep env.tickMs := by
  simp [State.fetchStep, h]

section
variable {s : State} {w : List Byte} {last stalled : State → State}

/-- A byte of the word moves, and more follow. -/
theorem sendWord_byte (h : s.int.txi + 1 < w.length) : sendWord w true last stalled s = s.sendByte w (s.int.txi + 1) := by
  simp only [sendWord, if_true, if_neg (Nat.not_le.mpr h)]
  rfl

/-- The last byte of the word moves. -/
theorem sendWord_last (h : s.int.txi + 1 = w.length) : sendWord w true last stalled s = last (s.sendByte w 0) := by
  simp only [sendWord, if_true, if_pos h.ge]
  rfl

end

theorem sendWord_stalled (w : List Byte) (last stalled : State → State) (s : State) :
    sendWord w false last stalled s = stalled s := rfl

theorem State.pollStep_nil {s : State} (h : s.rxQueue = []) :
    s.pollStep = State.finish { s with status := { s.status with noframe := true } } := by
  simp [State.pollStep, h]

theorem State.pollStep_ne_nil {s : State} (h : s.rxQueue ≠ []) :
    s.pollStep =
      State.goto .announce { s with regs := { s.regs with elapsedMs := 0 }, int := { s.int with ann := 0 } } := by
  obtain ⟨b, rest, hq⟩ := List.exists_cons_of_ne_nil h
  simp [State.pollStep, hq]

theorem State.announceStep_cons {s : State} {b : Byte} {rest : List Byte} (h : s.rxQueue = b :: rest) :
    s.announceStep =
      if 2 ≤ s.int.ann + 1 then
        State.goto .txContinue { s with rxQueue := rest, int := { s.int with ann := s.int.ann + 1, txi := 0 } }
      else { s with rxQueue := rest, int := { s.int with ann := s.int.ann + 1 } } := by
  simp only [State.announceStep, h]
  rfl

theorem State.announceStep_nil {s : State} (h : s.rxQueue = []) :
    s.announceStep = if s.expired then s.failTransfer .transferTimeout else s := by
  simp [State.announceStep, h]

theorem State.expired_iff (s : State) : s.expired = true ↔ s.regs.deadlineMs.toNat < s.regs.elapsedMs.toNat :=
  decide_eq_true_iff

theorem State.morePackets_iff (s : State) : s.morePackets = true ↔ s.regs.pktReceived.toNat < s.regs.packetCount.toNat :=
  decide_eq_true_iff

/-- READ's cycle, after its handshake (42_link_framer.md R195). -/
theorem State.readStep_eq (tickMs : Bool) (s : State) :
    s.readStep tickMs =
      if s.takeByte.int.rdn = s.regs.packetSize.toNat then s.takeByte.fullAttempt
      else if tickMs then s.takeByte.windowTick else s.takeByte := by
  rw [← s.takeByte_regs]
  rfl

/-- A failed transfer's completion clears the internal elements. -/
theorem State.failTransfer_atRest (e : ErrCode) (s : State) : (s.failTransfer e).int.AtRest := ⟨rfl, rfl, rfl, rfl, rfl⟩

/-! ### The control words -/

/-- ELAPSED_MS after a cycle of a TX_ state that goes on. -/
theorem countElapsed_word {s u : State} {st : LfState} {w : List Byte} (hw : controlWord st = some w)
    (hb : u.status.busy = true) (he : u.regs.elapsedMs = s.regs.elapsedMs) :
    (u.countElapsed s.sampled.env.tickMs st).regs =
      { u.regs with elapsedMs := if st = .txReady then s.regs.elapsedMs else tickedElapsed s } := by
  cases st with
  | txReady => rw [State.countElapsed_of_not _ (.inr rfl), if_pos rfl, ← he]
  | txContinue | txRetry | txEnd => exact State.countElapsed_counts rfl hb he
  | idle | poll | announce | check | read | flush => cases hw

/-- The cycle of a TX_ state. -/
theorem step_word {s : State} {st : LfState} {w : List Byte} (h : EngineIn st s) (hw : controlWord st = some w) :
    step s = .next
      ((sendWord w s.sampled.env.txReady (State.wordSent st) (State.stalled st) s.beginCycle).countElapsed
        s.sampled.env.tickMs st) := by
  obtain ⟨hf, hne⟩ := controlWord_state hw
  rw [step_engine_storeless h hf hne]
  obtain ⟨_, _, _, rfl, _⟩ := h
  rw [State.fetchStep_word (s := s.beginCycle) _ hw]
  rfl

/-- Settles O26: the word goes on, so its next byte moves and `I.txi` counts it. -/
theorem controlWordByteMoves : Obligations.ControlWordByteMoves := by
  refine ⟨rfl, rfl, rfl, rfl, fun s st w b h hw hr hi hbyte => ?_⟩
  have hstep := step_word h hw
  rw [hr, sendWord_byte (s := s.beginCycle) hi] at hstep
  obtain ⟨hvalid, hdata, hready, htx, hrx⟩ := h.channel_word hw hstep
  have hget : w.getD s.int.txi 0 = b := by rw [List.getD_eq_getElem?_getD, hbyte]; rfl
  rw [hget] at hdata htx
  rw [hr] at htx
  obtain ⟨_, _, hb, _, _⟩ := h
  exact ⟨_, hstep, htx, by simp, by simp, sameMemory_of_eq (by simp) (by simp), countElapsed_word hw hb rfl, hvalid,
    hdata, hready, hrx⟩

/-- Every control word ends with a newline (30_encoding.md R110). -/
theorem controlWord_last {st : LfState} {w : List Byte} {i : Nat} (hw : controlWord st = some w) (hi : i + 1 = w.length) :
    w.getD i 0 = 0x0A := by
  cases st <;> cases hw <;> cases hi <;> rfl

/-- The last byte of a word leads to no memory write, and clears `I.txi`. -/
theorem State.wordSent_frame (st : LfState) {s : State} (h : s.int.txi = 0) :
    (State.wordSent st s).pbuf = s.pbuf ∧ (State.wordSent st s).fbuf = s.fbuf ∧ (State.wordSent st s).int.txi = 0 := by
  cases st with
  | txEnd => exact ⟨rfl, rfl, rfl⟩
  | _ => exact ⟨rfl, rfl, h⟩

/-- The saturating count of R186, as the obligations write it. -/
theorem satInc_eq (v : Word) : satInc v = if v.toNat + 1 < 2 ^ 32 then v + 1 else v := by
  unfold satInc
  split
  next h => exact BitVec.eq_of_toNat_eq (by simp)
  next => rfl

/-- Settles O27, by the four words. -/
theorem controlWordEnds : Obligations.ControlWordEnds := by
  intro s st w h hw hr hi
  have hstep := step_word h hw
  rw [hr, sendWord_last (s := s.beginCycle) hi] at hstep
  obtain ⟨hvalid, hdata, hready, htx, hrx⟩ := h.channel_word hw hstep
  rw [controlWord_last hw hi] at hdata htx
  rw [hr] at htx
  obtain ⟨hp, hf, htxi⟩ := State.wordSent_frame st (s := s.beginCycle.sendByte w 0) rfl
  obtain ⟨_, _, hb, _, _⟩ := h
  refine ⟨_, hstep, htx, hvalid, hdata, hready, hrx, by simpa using htxi,
    sameMemory_of_eq (by simpa using hp) (by simpa using hf), ?_, ?_, ?_, ?_⟩ <;> rintro rfl
  · rw [State.countElapsed_of_not _ (.inr rfl)]
    exact ⟨rfl, rfl⟩
  · refine ⟨?_, State.countElapsed_counts rfl hb rfl⟩
    simp [State.wordSent, State.morePackets_iff]
  · refine ⟨by simp [State.wordSent], ?_⟩
    rw [← satInc_eq]
    exact State.countElapsed_counts rfl hb rfl
  · rw [State.countElapsed_of_not _ (.inl rfl)]
    exact ⟨rfl, ⟨rfl, rfl, rfl, rfl, rfl⟩, rfl⟩

/-- Whether a stalled cycle of `st` ends the command (42_link_framer.md R192). -/
theorem State.stalled_eq (st : LfState) (s : State) :
    State.stalled st s =
      if (st = .txContinue ∨ st = .txRetry) ∧ s.regs.deadlineMs.toNat < s.regs.elapsedMs.toNat ∧
          s.regs.pktReceived.toNat < s.regs.packetCount.toNat then
        s.failTransfer .transferTimeout
      else s := by
  cases st <;> simp [State.stalled, State.stallBeforeLast, State.expired, State.morePackets]

/-- Settles O28: with no byte moved the cycle is the stalled one, and R192 says whether it ends the command. -/
theorem stalledTransmit : Obligations.StalledTransmit := by
  intro s st w h hw hr
  have hstep := step_word h hw
  rw [hr, sendWord_stalled] at hstep
  obtain ⟨hvalid, hdata, hready, htx, hrx⟩ := h.channel_word hw hstep
  rw [hr] at htx
  refine ⟨_, hstep, ⟨by simpa using htx, hrx⟩, hvalid, fun b hbyte => ?_, hready, ?_⟩
  · rw [hdata, List.getD_eq_getElem?_getD, hbyte]; rfl
  obtain ⟨_, _, hb, _, _⟩ := h
  split
  next hends =>
    rw [(State.stalled_eq st s.beginCycle).trans (if_pos hends), State.countElapsed_of_not _ (.inl (by simp))]
    exact ⟨by simp [errorStatus], by simp, State.failTransfer_atRest _ _⟩
  next hwaits =>
    rw [(State.stalled_eq st s.beginCycle).trans (if_neg hwaits)]
    exact ⟨by simp, by simp, sameMemory_of_eq (by simp) (by simp), countElapsed_word hw hb rfl⟩

/-! ### POLL, ANNOUNCE and CHECK -/

/-- Settles O29. -/
theorem pollDecides : Obligations.PollDecides := by
  rintro s q h rfl
  have hstep := step_engine_storeless h rfl (by decide)
  rw [State.fetchStep_poll _ (by obtain ⟨_, _, _, hl, _⟩ := h; exact hl), State.countElapsed_of_not _ (.inr rfl)] at hstep
  refine ⟨_, hstep, ?_, h.channel_still rfl rfl hstep, ?_⟩
  · by_cases hq : s.beginCycle.rxQueue = []
    · rw [State.pollStep_nil hq]; exact sameMemory_of_eq rfl rfl
    · rw [State.pollStep_ne_nil hq]; exact sameMemory_of_eq rfl rfl
  · split
    next hq => rw [State.pollStep_nil (s := s.beginCycle) hq]; exact ⟨rfl, rfl, rfl, rfl, rfl, rfl, rfl⟩
    next hq => rw [State.pollStep_ne_nil (s := s.beginCycle) hq]; exact ⟨rfl, rfl, rfl⟩

/-- Settles O30, by whether a byte is presented, and which one it is. -/
theorem announceDiscardsTwoBytes : Obligations.AnnounceDiscardsTwoBytes := by
  rintro s q h hann rfl
  have hstep := step_engine_storeless h rfl (by decide)
  obtain ⟨hready, htx, hrx⟩ := h.channel_takes rfl hstep
  refine ⟨_, hstep, hready, htx, hrx, ?_⟩
  obtain ⟨_, _, hb, hl, _⟩ := h
  rw [State.fetchStep_announce (s := s.beginCycle) _ hl]
  split
  next hq =>
    obtain ⟨b, rest, hq⟩ := List.exists_cons_of_ne_nil hq
    rw [State.announceStep_cons (s := s.beginCycle) hq]
    by_cases h1 : s.int.ann = 1
    · rw [if_pos h1, if_pos (by simp [h1])]
      exact ⟨sameMemory_of_eq (by simp) (by simp), State.countElapsed_counts rfl hb rfl, by simp, by simp [h1]⟩
    · have h0 : s.int.ann = 0 := by omega
      rw [if_neg h1, if_neg (by simp [h0])]
      exact ⟨sameMemory_of_eq (by simp) (by simp), State.countElapsed_counts rfl hb rfl, by simp, by simp [h0]⟩
  next hq =>
    rw [State.announceStep_nil (s := s.beginCycle) (not_not.mp hq)]
    simp only [State.expired_iff, State.beginCycle_regs]
    split
    · rw [State.countElapsed_of_not _ (.inl (by simp))]
      exact ⟨by simp [errorStatus], by simp⟩
    · exact ⟨by simp, by simp, sameMemory_of_eq (by simp) (by simp), State.countElapsed_counts rfl hb rfl⟩

/-- Settles O31. -/
theorem checkTestsDeadline : Obligations.CheckTestsDeadline := by
  intro s h
  have hstep := step_engine_storeless h rfl (by decide)
  refine ⟨_, hstep, h.channel_still rfl rfl hstep, ?_⟩
  obtain ⟨_, _, hb, hl, _⟩ := h
  rw [State.fetchStep_check (s := s.beginCycle) _ hl]
  simp only [State.checkStep, State.expired_iff, State.beginCycle_regs]
  split
  · rw [State.countElapsed_of_not _ (.inl (by simp))]
    exact ⟨by simp [errorStatus], by simp, State.failTransfer_atRest _ _⟩
  · exact ⟨by simp, by simp, sameMemory_of_eq (by simp) (by simp), State.countElapsed_counts rfl hb rfl⟩

end Sys2Proof.Machine
end

section
/-!
SUPPORT. READ, the link's failure and the deadline (O32 to O34, O60; 42_link_framer.md R192, R195, R201, R202), and the starts of
LINK_FETCH and RX_FLUSH (O24, O25, O38; R183, R205).
-/

namespace Sys2Proof.Machine

/-! ### READ -/

/-- READ's handshake counts the byte it takes. -/
theorem State.takeByte_rdn (s : State) : s.takeByte.int.rdn = s.int.rdn + (if s.rxQueue = [] then 0 else 1) := by
  cases hq : s.rxQueue with
  | nil => rw [State.takeByte_nil hq]; rfl
  | cons b rest => rw [State.takeByte_cons hq]; rfl

/-- The byte that READ's handshake takes stands at the store address. -/
theorem State.takeByte_storeAddr {s : State} {b : Byte} (hb : s.rxQueue.head? = some b)
    (ha : s.storeAddr < Config.pbufBytes) : s.takeByte.pbufByte s.storeAddr = b := by
  obtain ⟨rest, hq⟩ := List.head?_eq_some_iff.mp hb
  rw [State.takeByte_cons hq]
  exact (State.pbufByte_pbufWrite s.storeAddr s.storeAddr b s).trans (if_pos ⟨rfl, ha⟩)

/-- Every other byte of PBUF stays. -/
theorem State.takeByte_pbufByte {s : State} {x : Nat} (h : s.rxQueue = [] ∨ x ≠ s.storeAddr) :
    s.takeByte.pbufByte x = s.pbufByte x := by
  by_contra hne
  obtain ⟨hx, hq⟩ := State.takeByte_pbufByte_ne hne
  exact h.elim hq (absurd hx)

section
variable {s : State}

theorem State.readStep_full {tickMs : Bool} (h : s.takeByte.int.rdn = s.regs.packetSize.toNat) :
    s.readStep tickMs = s.takeByte.fullAttempt :=
  (s.readStep_eq tickMs).trans (if_pos h)

theorem State.readStep_tick (h : s.takeByte.int.rdn ≠ s.regs.packetSize.toNat) :
    s.readStep true = s.takeByte.windowTick :=
  (s.readStep_eq true).trans (if_neg h)

theorem State.readStep_takes (h : s.takeByte.int.rdn ≠ s.regs.packetSize.toNat) : s.readStep false = s.takeByte :=
  (s.readStep_eq false).trans (if_neg h)

end

@[simp] theorem State.readStep_pbuf (tickMs : Bool) (s : State) : (s.readStep tickMs).pbuf = s.takeByte.pbuf := by
  rw [State.readStep_eq]; split_ifs <;> simp

@[simp] theorem State.readStep_fbuf (tickMs : Bool) (s : State) : (s.readStep tickMs).fbuf = s.fbuf := by
  rw [State.readStep_eq]; split_ifs <;> simp

@[simp] theorem State.readStep_rdn (tickMs : Bool) (s : State) : (s.readStep tickMs).int.rdn = s.takeByte.int.rdn := by
  rw [State.readStep_eq]; split_ifs <;> simp

/-- READ's cycle within PBUF. -/
theorem step_read_within {s : State} (h : EngineIn .read s) (ha : s.storeAddr < Config.pbufBytes) :
    step s = .next ((s.beginCycle.readStep s.sampled.env.tickMs).countElapsed s.sampled.env.tickMs .read) := by
  rw [step_engine h rfl (State.strayStore_of_lt _ ha)]
  obtain ⟨_, _, _, hl, _⟩ := h
  rw [State.fetchStep_read (s := s.beginCycle) _ hl]

/-- Settles O32: the handshake first, then the attempt is full, or a pulse advances its window, or it goes on. -/
theorem readAttemptCycle : Obligations.ReadAttemptCycle := by
  rintro s q n a h rfl rfl ha hn
  have hstep := step_read_within h ha
  obtain ⟨hready, htx, hrx⟩ := h.channel_takes rfl hstep
  have hpbuf := State.pbufByte_congr
    ((State.countElapsed_pbuf s.sampled.env.tickMs .read _).trans (s.beginCycle.readStep_pbuf s.sampled.env.tickMs))
  have hrdn : s.beginCycle.takeByte.int.rdn = n := s.beginCycle.takeByte_rdn.trans hn.symm
  refine ⟨_, hstep, hready, htx, hrx, fun b hb => ?_, fun x hx => ?_, fun i => ?_, ?_, ?_⟩
  · exact (hpbuf _).trans (State.takeByte_storeAddr (s := s.beginCycle) hb ha)
  · exact (hpbuf _).trans (State.takeByte_pbufByte (s := s.beginCycle) hx)
  · exact State.fbufPixel_congr (by simp) i
  · rw [State.countElapsed_int, State.readStep_rdn]; exact hrdn
  obtain ⟨_, _, hb, hl, _⟩ := h
  split
  next hfull =>
    rw [State.readStep_full (hrdn.trans hfull)]
    exact ⟨(State.countElapsed_counts rfl (by simpa using hb) (by simp)).trans (by simp), by simp, by simp⟩
  next hopen =>
    have hpart : s.beginCycle.takeByte.int.rdn ≠ s.beginCycle.regs.packetSize.toNat := by rw [hrdn]; exact hopen
    split
    next htick =>
      rw [htick, State.readStep_tick hpart, ← htick]
      exact ⟨(State.countElapsed_counts rfl (by simpa using hb) (by simp)).trans (by simp), by simp, by simp, by simp [hl]⟩
    next htick =>
      rw [Bool.not_eq_true] at htick
      rw [htick, State.readStep_takes hpart, ← htick]
      exact ⟨(State.countElapsed_counts rfl (by simpa using hb) (by simp)).trans (by simp), by simp, by simp, by simp⟩

/-- Settles O60: a legal configuration's packets make up the payload, and those received are at most all. -/
theorem fetchStaysInPayload : Obligations.FetchStaysInPayload := by
  rintro s ⟨_, _, hrun⟩ hb hf
  obtain ⟨_, _, hfetch, _⟩ := hrun hb
  obtain ⟨⟨_, _, hmul, _, hmax, _⟩, hcount⟩ := (State.fetchOk_iff s).mp (hfetch hf)
  have hreceived := hcount.1
  rw [← hmul]
  refine ⟨Nat.mul_le_mul_right _ hreceived, hmul ▸ hmax, fun hl => ?_⟩
  simp only [State.FetchCounters, hl] at hcount
  obtain ⟨_, _, _, _, _, hrdn, _, hmore⟩ := hcount
  calc s.storeAddr < s.regs.pktReceived.toNat * s.regs.packetSize.toNat + s.regs.packetSize.toNat :=
        Nat.add_lt_add_left hrdn _
    _ = (s.regs.pktReceived.toNat + 1) * s.regs.packetSize.toNat := (Nat.succ_mul _ _).symm
    _ ≤ s.regs.packetCount.toNat * s.regs.packetSize.toNat := Nat.mul_le_mul_right _ hmore

/-! ### The link down -/

/-- With the link down nothing is stored. -/
theorem State.strayStore_down {env : EnvIn} (h : env.linkUp = false) (s : State) : s.strayStore env = none := by
  simp [State.strayStore, h]

/-- LINK_FETCH with the link down fails (42_link_framer.md R201). -/
theorem State.unitStep_fetchDown {env : EnvIn} {s : State} (hb : s.status.busy = true)
    (hf : isFetchState s.status.lfState = true) (hup : env.linkUp = false) :
    s.unitStep env = s.failTransfer .channelUnavailable := by
  have hlink : s.unitStep env = s.linkStep env := by
    unfold State.unitStep
    rw [if_pos hb]
    cases hl : s.status.lfState <;> rw [hl] at hf <;> first | rfl | cases hf
  rw [hlink, State.linkStep, hup]
  rfl

/-- RX_FLUSH's step. -/
theorem State.unitStep_flush {s : State} (env : EnvIn) (hb : s.status.busy = true) (hl : s.status.lfState = .flush) :
    s.unitStep env = s.flushStep env := by
  simp [State.unitStep, hb, hl]

/-- Settles O33: LINK_FETCH loses what it stored, RX_FLUSH nothing. -/
theorem linkDownEndsFetch : Obligations.LinkDownEndsFetch := by
  intro s hr hh hb hcmd hup
  have hstep := step_idleHost hr hh (State.strayStore_down hup s.beginCycle)
  obtain ⟨htx, hrx, hout⟩ := step_handshake hstep hr
  rw [hup, State.ports_down] at hout
  rw [hout] at htx hrx
  have hmoved : NoByteMoved s (s.beginCycle.unitStep s.sampled.env) := ⟨by simpa using htx, hrx⟩
  obtain hf | hl := hcmd
  · rw [State.unitStep_fetchDown (s := s.beginCycle) hb hf hup] at hstep hout hmoved
    refine ⟨_, hstep, by simp [errorStatus], by simp, State.failTransfer_atRest _ _, hmoved, by rw [hout], by rw [hout],
      State.fbufPixel_congr (by simp), fun a ha => ?_, fun hl => ?_⟩
    · by_contra hne
      exact absurd (State.loseFetched_pbufByte_ne (s := s.beginCycle) hne) (Nat.not_lt.mpr ha)
    · rw [hl] at hf; cases hf
  · rw [State.unitStep_flush (s := s.beginCycle) _ hb hl, State.flushStep, hup] at hstep hout hmoved
    exact ⟨_, hstep, rfl, rfl, ⟨rfl, rfl, rfl, rfl, rfl⟩, hmoved, by rw [hout], by rw [hout], fun _ => rfl,
      fun _ _ => rfl, fun _ => sameMemory_of_eq rfl rfl⟩

/-! ### The deadline -/

/-- The points at which R192 lets the deadline end the command. -/
def State.TimesOut (env : EnvIn) (s : State) : Prop :=
  s.status.lfState = .check ∨ (s.status.lfState = .announce ∧ s.rxQueue = []) ∨
    ((s.status.lfState = .txContinue ∨ s.status.lfState = .txRetry) ∧ env.txReady = false ∧
      s.regs.pktReceived.toNat < s.regs.packetCount.toNat)

/-- The last byte of a word causes no error. -/
theorem State.wordSent_errcode (st : LfState) {s : State} (h : s.status.errcode = none) :
    (State.wordSent st s).status.errcode = none := by
  cases st with
  | txEnd => rfl
  | _ => exact h

/-- The engine's step of a state without error: a `TransferTimeout` needs an expired deadline at one of R192's points. -/
theorem State.fetchStep_timeout {env : EnvIn} {s : State} (hs : s.status.errcode = none)
    (h : (s.fetchStep env).status.errcode = some .transferTimeout) :
    s.regs.deadlineMs.toNat < s.regs.elapsedMs.toNat ∧ s.TimesOut env := by
  have never : ∀ {u : State}, u.status.errcode = none → u.status.errcode = some .transferTimeout → False := by
    intro u hnone hsome
    rw [hnone] at hsome; cases hsome
  cases hw : controlWord s.status.lfState with
  | some w =>
    rw [State.fetchStep_word env hw] at h
    cases hr : env.txReady with
    | true =>
      rw [hr, sendWord, if_pos rfl] at h
      dsimp only at h
      split_ifs at h
      · exact (never (State.wordSent_errcode (s := (s.sent _).setTxi 0) _ hs) h).elim
      · exact (never hs h).elim
    | false =>
      rw [hr, sendWord_stalled, State.stalled_eq] at h
      split_ifs at h with hends
      · obtain ⟨hst, hexpired, hmore⟩ := hends
        exact ⟨hexpired, .inr (.inr ⟨hst, hr, hmore⟩)⟩
      · exact (never hs h).elim
  | none =>
    cases hl : s.status.lfState with
    | txReady | txContinue | txRetry | txEnd => rw [hl] at hw; cases hw
    | poll =>
      rw [State.fetchStep_poll env hl] at h
      by_cases hq : s.rxQueue = []
      · rw [State.pollStep_nil hq] at h; cases h
      · rw [State.pollStep_ne_nil hq] at h; exact (never hs h).elim
    | announce =>
      rw [State.fetchStep_announce env hl] at h
      cases hq : s.rxQueue with
      | nil =>
        rw [State.announceStep_nil hq] at h
        split_ifs at h with hexpired
        · exact ⟨s.expired_iff.mp hexpired, .inr (.inl ⟨hl, hq⟩)⟩
        · exact (never hs h).elim
      | cons b rest =>
        rw [State.announceStep_cons hq] at h
        split_ifs at h <;> exact (never hs h).elim
    | check =>
      rw [State.fetchStep_check env hl, State.checkStep] at h
      split_ifs at h with hexpired
      · exact ⟨s.expired_iff.mp hexpired, .inl hl⟩
      · exact (never hs h).elim
    | read =>
      rw [State.fetchStep_read env hl, State.readStep_eq] at h
      split_ifs at h <;> simp [hs] at h
    | idle | flush =>
      rw [State.fetchStep, hl] at h
      exact (never hs h).elim

theorem State.parseCommit_errcode (s : State) : s.parseCommit.status.errcode ≠ some .transferTimeout := by
  unfold State.parseCommit
  dsimp only
  split_ifs <;> simp

theorem State.decodeCommit_errcode (s : State) : s.decodeCommit.status.errcode ≠ some .transferTimeout := by
  have herror : s.decodeError ≠ some .transferTimeout := by
    unfold State.decodeError
    split_ifs <;> simp
  unfold State.decodeCommit
  split
  next e he => rw [he] at herror; simpa using herror
  next => simp

theorem State.flushStep_errcode (env : EnvIn) {s : State} (hs : s.status.errcode = none) :
    (s.flushStep env).status.errcode ≠ some .transferTimeout := by
  unfold State.flushStep
  repeat' split
  all_goals simp [hs]

/-- GPCL's step of a state without error: a `TransferTimeout` is the link engine's, with the link up. -/
theorem State.unitStep_timeout {env : EnvIn} {s : State} (hs : s.status.errcode = none)
    (h : (s.unitStep env).status.errcode = some .transferTimeout) :
    env.linkUp = true ∧ s.regs.deadlineMs.toNat < s.regs.elapsedMs.toNat ∧ s.TimesOut env := by
  have hlink : (s.linkStep env).status.errcode = some .transferTimeout →
      env.linkUp = true ∧ s.regs.deadlineMs.toNat < s.regs.elapsedMs.toNat ∧ s.TimesOut env := by
    intro h
    unfold State.linkStep at h
    split at h
    next hup => exact ⟨hup, State.fetchStep_timeout hs (by simpa using h)⟩
    next => simp at h
  unfold State.unitStep at h
  split at h
  · split at h
    · unfold State.parseStep State.decodeStep at h
      split_ifs at h
      · exact absurd h s.parseCommit_errcode
      · simp [hs] at h
      · exact absurd h s.decodeCommit_errcode
      · simp [hs] at h
      · simp [hs] at h
    · exact absurd h (State.flushStep_errcode env hs)
    all_goals exact hlink h
  · simp [hs] at h

/-- The start checks cause no `TransferTimeout` (42_link_framer.md R183). -/
theorem State.fetchStartError_ne (linkUp : Bool) (s : State) : s.fetchStartError linkUp ≠ some .transferTimeout := by
  unfold State.fetchStartError
  split_ifs <;> simp

/-- No host transaction of an idle cycle causes one. -/
theorem IdleEffect.errcode {x : HostTxn} {linkUp : Bool} {b t : State} (h : IdleEffect x linkUp b t)
    (hb : b.status.errcode = Option.none) : t.status.errcode ≠ some .transferTimeout := by
  cases h with
  | linkFetch =>
    cases he : b.fetchStarted.fetchStartError linkUp with
    | some e =>
      have hne := b.fetchStarted.fetchStartError_ne linkUp
      rw [startLinkFetch_some he]
      rw [he] at hne
      exact hne
    | none => rw [startLinkFetch_none he]; nofun
  | rxFlush => cases linkUp <;> nofun
  | write => simp [hb]
  | none | read | readPbuf | readFbuf | conv => simp [hb]
  | parse | decode | clear | illegal => nofun

/-- A host transaction of a running command's cycle leaves the error of its step, or cancels it. -/
theorem BusyEffect.errcode {x : HostTxn} {s u t : State} (h : BusyEffect x s u t) :
    t.status.errcode = u.status.errcode ∨ t.status.errcode = some .cancelled := by
  cases h with
  | none | reject | read | conv => exact .inl rfl
  | cancel => exact .inr (by simp)

/-- Settles O34: reset, the host's transactions and the other units cause no `TransferTimeout`. -/
theorem timeoutOnlyAtItsPoints : Obligations.TimeoutOnlyAtItsPoints := by
  intro s t hs hstep ht
  cases hr : s.sampled.rst with
  | true =>
    rw [step_reset hr] at hstep
    cases hstep
    cases ht
  | false =>
    cases hb : s.status.busy with
    | false => exact absurd ht ((step_idle_effect hstep hr hb).errcode hs)
    | true =>
      obtain hu | hcancelled := (step_busy_effect hstep hr hb).errcode
      · obtain ⟨hup, hexpired, hpoint⟩ := State.unitStep_timeout (s := s.beginCycle) hs (hu.symm.trans ht)
        exact ⟨rfl, rfl, hup, hexpired, hpoint⟩
      · rw [ht] at hcancelled; cases hcancelled

/-! ### The starts -/

/-- What the start leaves alone, whether or not a check fails. -/
theorem startLinkFetch_frame {s : State} (hb : s.status.busy = false) (linkUp : Bool) :
    SameMemory s (startLinkFetch linkUp s.beginCycle) ∧ NoByteMoved s (startLinkFetch linkUp s.beginCycle) ∧
      QuietPorts (startLinkFetch linkUp s.beginCycle) := by
  obtain ⟨hp, hf⟩ := startLinkFetch_memory linkUp s.beginCycle
  obtain ⟨htx, hrx, hout⟩ := startLinkFetch_channel linkUp s.beginCycle
  refine ⟨sameMemory_of_eq hp hf, ⟨htx, hrx⟩, ?_⟩
  rw [QuietPorts, hout, State.beginCycle_out, State.ports_idle _ hb]
  exact ⟨rfl, rfl⟩

/-- The write of LINK_FETCH with no command running. -/
theorem exec_linkFetch_idle {s : State} (hb : s.status.busy = false) :
    exec .linkFetch s = .next (startLinkFetch s.sampled.env.linkUp s.beginCycle) := by
  rw [exec_linkFetch, commandCycle_idle _ hb]

/-- A failing start check ends the command with its error (42_link_framer.md R183, R39). -/
theorem startLinkFetch_fails {s : State} {linkUp : Bool} {e : ErrCode} (h : s.fetchStartError linkUp = some e) :
    (startLinkFetch linkUp s.beginCycle).regs = s.regs ∧
      (startLinkFetch linkUp s.beginCycle).status =
        errorStatus e { startedStatus 0x3 s.status with frameValid := false } := by
  rw [startLinkFetch_some (s := s.beginCycle) h]
  exact ⟨rfl, rfl⟩

/-- Settles O24: no start check fails, so the transfer is prepared. -/
theorem linkFetchStarts : Obligations.LinkFetchStarts := by
  rintro s n hb hup hw hh rfl hc hdiv hmax hwin
  have hpass : s.fetchStartError true = none := by
    unfold State.fetchStartError
    rw [if_neg (by decide), if_neg (not_or.mpr ⟨hw, hh⟩), if_neg]
    exact not_or.mpr ⟨hc, not_or.mpr ⟨not_not.mpr hdiv, not_or.mpr ⟨Nat.not_lt.mpr hmax, hwin⟩⟩⟩
  obtain ⟨hmem, hbytes, hports⟩ := startLinkFetch_frame hb true
  obtain ⟨_, _, hmul, _⟩ := State.prepareFetch_fetchConfig (s := s.beginCycle.fetchStarted) rfl rfl hpass
  have hstart := startLinkFetch_none (s := s.beginCycle) hpass
  refine ⟨_, (exec_linkFetch_idle hb).trans (by rw [hup]), ?_, ?_, ?_, ?_, ?_, ?_, ?_, ?_, ?_, hmem, hbytes, hports⟩ <;>
    rw [hstart]
  case refine_3 => exact (Nat.mul_comm _ _).trans hmul
  all_goals rfl

/-- Settles O25: the statement's cases are those of R183, in its order. -/
theorem linkFetchStartChecks : Obligations.LinkFetchStartChecks := by
  rintro s n hb rfl
  obtain ⟨hmem, hbytes, hports⟩ := startLinkFetch_frame hb s.sampled.env.linkUp
  refine ⟨_, exec_linkFetch_idle hb, hmem, hbytes, hports, ?_⟩
  split
  next hup => exact startLinkFetch_fails (if_pos (by rw [hup]; rfl))
  next hup =>
  have hlink : ¬ (!s.sampled.env.linkUp) = true := by simpa using hup
  split
  next hgeometry => exact startLinkFetch_fails ((if_neg hlink).trans (if_pos hgeometry))
  next hgeometry =>
  split
  next hconfig => exact startLinkFetch_fails ((if_neg hlink).trans ((if_neg hgeometry).trans (if_pos hconfig)))
  next hconfig =>
    rw [startLinkFetch_none (s := s.beginCycle) ((if_neg hlink).trans ((if_neg hgeometry).trans (if_neg hconfig)))]
    rfl

/-- Settles O38. -/
theorem rxFlushStarts : Obligations.RxFlushStarts := by
  intro s hb
  have hstep : exec .rxFlush s = .next (startRxFlush s.sampled.env.linkUp s.beginCycle) := by
    rw [exec_rxFlush, commandCycle_idle _ hb]
  have hports : QuietPorts s.beginCycle := by
    rw [QuietPorts, State.beginCycle_out, State.ports_idle _ hb]
    exact ⟨rfl, rfl⟩
  refine ⟨_, hstep, ?_⟩
  cases s.sampled.env.linkUp with
  | true => exact ⟨rfl, sameMemory_of_eq rfl rfl, ⟨rfl, rfl⟩, hports, rfl, rfl⟩
  | false => exact ⟨rfl, sameMemory_of_eq rfl rfl, ⟨rfl, rfl⟩, hports, rfl⟩

end Sys2Proof.Machine
end

section
/-!
SUPPORT. LINK_FETCH and RX_FLUSH never inspect a received byte (O37; 42_link_framer.md R204): every operation of their cycle takes
states that differ in such bytes alone to states that again differ in them alone.
-/

namespace Sys2Proof.Machine

/-- `t` is `s` with other bytes in the receive queue, as many of them, and with another PBUF. -/
def State.SameButContent (s t : State) : Prop :=
  ∃ q m, q.length = s.rxQueue.length ∧ t = { s with rxQueue := q, pbuf := m }

theorem State.SameButContent.refl (s : State) : s.SameButContent s := ⟨s.rxQueue, s.pbuf, rfl, rfl⟩

theorem State.SameButContent.status {s t : State} (h : s.SameButContent t) : t.status = s.status := by
  obtain ⟨q, m, hq, rfl⟩ := h
  rfl

/-- `f` does not inspect received bytes. -/
def ContentBlind (f : State → State) : Prop :=
  ∀ s t : State, s.SameButContent t → (f s).SameButContent (f t)

theorem contentBlind_id : ContentBlind (fun s => s) := fun _ _ h => h

theorem ContentBlind.comp {f g : State → State} (hf : ContentBlind f) (hg : ContentBlind g) :
    ContentBlind (fun s => f (g s)) := fun s t h => hf _ _ (hg s t h)

/-- A choice that does not depend on received bytes, between operations that do not inspect them. -/
theorem contentBlind_ite {c : State → Prop} [∀ s, Decidable (c s)] {f g : State → State}
    (hc : ∀ (s : State) q m, c { s with rxQueue := q, pbuf := m } ↔ c s) (hf : ContentBlind f) (hg : ContentBlind g) :
    ContentBlind (fun s => if c s then f s else g s) := by
  intro s t h
  have hct : c t ↔ c s := by
    obtain ⟨q, m, _, rfl⟩ := h
    exact hc s q m
  dsimp only
  by_cases hs : c s
  · rw [if_pos hs, if_pos (hct.mpr hs)]
    exact hf s t h
  · rw [if_neg hs, if_neg (mt hct.mp hs)]
    exact hg s t h

/-- An operation that touches neither the receive queue nor PBUF, and reads neither; where its definition shows that, there is
nothing to prove. -/
theorem contentBlind_of_frame {f : State → State}
    (h : ∀ (s : State) q m, f { s with rxQueue := q, pbuf := m } = { f s with rxQueue := q, pbuf := m } := by intros; rfl)
    (hq : ∀ s, (f s).rxQueue = s.rxQueue := by intros; rfl) : ContentBlind f := by
  rintro s _ ⟨q, m, hlen, rfl⟩
  exact ⟨q, m, by rw [hq, hlen], h s q m⟩

theorem contentBlind_beginCycle : ContentBlind State.beginCycle := by
  rintro s _ ⟨q, m, hq, rfl⟩
  refine ⟨applyRx s.sampled.env.rx q, m, ?_, rfl⟩
  rw [State.beginCycle_rxQueue]
  cases s.sampled.env.rx <;> simp [applyRx, hq]

/-! ### The link engine -/

theorem contentBlind_loseFetched : ContentBlind State.loseFetched := by
  refine contentBlind_ite (fun _ _ _ => .rfl) ?_ contentBlind_id
  rintro s _ ⟨q, m, hq, rfl⟩
  exact ⟨q, _, hq, rfl⟩

theorem contentBlind_failTransfer (e : ErrCode) : ContentBlind (State.failTransfer e) :=
  ContentBlind.comp (f := State.raise e) contentBlind_of_frame contentBlind_loseFetched

theorem contentBlind_sendWord (w : List Byte) (txReady : Bool) {last stalled : State → State}
    (hl : ContentBlind last) (hs : ContentBlind stalled) : ContentBlind (sendWord w txReady last stalled) := by
  refine contentBlind_ite (fun _ _ _ => .rfl) (contentBlind_ite (fun _ _ _ => .rfl) ?_
    contentBlind_of_frame) hs
  exact ContentBlind.comp hl (g := fun s => (s.sent (w.getD s.int.txi 0)).setTxi 0)
    contentBlind_of_frame

theorem contentBlind_stallBeforeLast : ContentBlind State.stallBeforeLast :=
  contentBlind_ite (fun _ _ _ => .rfl) (contentBlind_failTransfer _) contentBlind_id

/-- An operation on the presented byte: it may depend on whether there is one, and may put it in PBUF. -/
theorem contentBlind_of_queue {f : State → State}
    (hcons : ∀ (s : State) b c q r m, q.length = r.length →
      (f { s with rxQueue := b :: q }).SameButContent (f { s with rxQueue := c :: r, pbuf := m }))
    (hnil : ∀ (s : State) m, (f { s with rxQueue := [] }).SameButContent (f { s with rxQueue := [], pbuf := m })) :
    ContentBlind f := by
  rintro s _ ⟨q, m, hq, rfl⟩
  obtain ⟨st, regs, int, pbuf, fbuf, rx, tx, out, inputs, cycle, draws⟩ := s
  cases rx with
  | nil =>
    obtain rfl := List.eq_nil_of_length_eq_zero hq
    exact hnil { status := st, regs, int, pbuf, fbuf, rxQueue := [], txSent := tx, out, inputs, cycle, draws } m
  | cons b rest =>
    obtain ⟨c, r, rfl⟩ := List.exists_cons_of_length_eq_add_one hq
    exact hcons { status := st, regs, int, pbuf, fbuf, rxQueue := [], txSent := tx, out, inputs, cycle, draws } b c rest r m
      (Nat.succ.inj hq).symm

theorem contentBlind_pollStep : ContentBlind State.pollStep :=
  contentBlind_of_queue (fun _ _ c _ r m h => ⟨c :: r, m, by simp [State.pollStep, h], rfl⟩)
    fun _ m => ⟨[], m, rfl, rfl⟩

/-- ANNOUNCE's count of a discarded byte. -/
theorem contentBlind_announceStep : ContentBlind State.announceStep := by
  refine contentBlind_of_queue (fun s b c q r m h => ?_) fun s m => ?_
  · have hcount : ContentBlind fun s : State => if 2 ≤ s.int.ann then (s.setTxi 0).goto .txContinue else s :=
      contentBlind_ite (fun _ _ _ => .rfl) contentBlind_of_frame contentBlind_id
    exact hcount { s with rxQueue := q, int := { s.int with ann := s.int.ann + 1 } } _ ⟨r, m, h.symm, rfl⟩
  · have hwait : ContentBlind fun s : State => if s.expired then s.failTransfer .transferTimeout else s :=
      contentBlind_ite (fun _ _ _ => .rfl) (contentBlind_failTransfer _) contentBlind_id
    exact hwait { s with rxQueue := [] } _ ⟨[], m, rfl, rfl⟩

theorem contentBlind_checkStep : ContentBlind State.checkStep :=
  contentBlind_ite (fun _ _ _ => .rfl) (contentBlind_failTransfer _) contentBlind_of_frame

/-- A PBUF write changes PBUF alone. -/
theorem State.pbufWrite_eq (a : Nat) (v : Byte) (s : State) :
    s.pbufWrite a v = { s with pbuf := (s.pbufWrite a v).pbuf } := by
  unfold State.pbufWrite
  split <;> rfl

/-- READ's handshake puts the byte in PBUF, whatever it is, and counts it. -/
theorem contentBlind_takeByte : ContentBlind State.takeByte := by
  refine contentBlind_of_queue (fun s b c q r m h => ?_) fun s m => ⟨[], m, rfl, rfl⟩
  rw [State.takeByte_cons (s := { s with rxQueue := b :: q }) rfl,
    State.takeByte_cons (s := { s with rxQueue := c :: r, pbuf := m }) rfl, State.pbufWrite_eq]
  rw [State.pbufWrite_eq _ c]
  exact ⟨r, _, h.symm, rfl⟩

theorem contentBlind_fullAttempt : ContentBlind State.fullAttempt :=
  contentBlind_of_frame (fun _ _ _ => by rw [State.fullAttempt_eq, State.fullAttempt_eq]) State.fullAttempt_rxQueue

theorem contentBlind_windowTick : ContentBlind State.windowTick :=
  ContentBlind.comp (g := fun s => { s with int := { s.int with rdw := s.int.rdw + 1 } })
    (f := fun s => if s.regs.readWindowMs.toNat ≤ s.int.rdw then (s.setTxi 0).goto .txRetry else s)
    (contentBlind_ite (fun _ _ _ => .rfl) contentBlind_of_frame contentBlind_id)
    contentBlind_of_frame

theorem contentBlind_readStep (tickMs : Bool) : ContentBlind (State.readStep tickMs) :=
  ContentBlind.comp (g := State.takeByte)
    (f := fun s => if s.int.rdn = s.regs.packetSize.toNat then s.fullAttempt else if tickMs then s.windowTick else s)
    (contentBlind_ite (fun _ _ _ => .rfl) contentBlind_fullAttempt
      (contentBlind_ite (fun _ _ _ => .rfl) contentBlind_windowTick contentBlind_id))
    contentBlind_takeByte

theorem contentBlind_fetchStep (env : EnvIn) : ContentBlind (State.fetchStep env) := by
  intro s t h
  unfold State.fetchStep
  rw [h.status]
  cases s.status.lfState with
  | txReady =>
    exact contentBlind_sendWord readyWord env.txReady (last := State.goto .poll) (stalled := id)
      contentBlind_of_frame contentBlind_id s t h
  | poll => exact contentBlind_pollStep s t h
  | announce => exact contentBlind_announceStep s t h
  | txContinue =>
    refine contentBlind_sendWord _ _ ?_ contentBlind_stallBeforeLast s t h
    exact contentBlind_ite (fun _ _ _ => .rfl) contentBlind_of_frame
      contentBlind_of_frame
  | check => exact contentBlind_checkStep s t h
  | read => exact contentBlind_readStep _ s t h
  | txRetry =>
    exact contentBlind_sendWord retryWord env.txReady (last := fun t => t.countRetry.goto .check)
      contentBlind_of_frame contentBlind_stallBeforeLast s t h
  | txEnd =>
    exact contentBlind_sendWord endWord env.txReady (last := State.fetchSuccess) (stalled := id)
      contentBlind_of_frame contentBlind_id s t h
  | idle | flush => exact h

theorem contentBlind_linkStep (env : EnvIn) : ContentBlind (State.linkStep env) := by
  refine contentBlind_ite (fun _ _ _ => .rfl) (fun s t h => ?_) (contentBlind_failTransfer _)
  rw [h.status]
  have hcount : ContentBlind (State.countElapsed env.tickMs s.status.lfState) :=
    contentBlind_ite (fun _ _ _ => .rfl) contentBlind_of_frame contentBlind_id
  exact hcount _ _ (contentBlind_fetchStep env s t h)

theorem contentBlind_flushStep (env : EnvIn) : ContentBlind (State.flushStep env) := by
  refine contentBlind_ite (fun _ _ _ => .rfl) (fun s t h => ?_) contentBlind_of_frame
  have hflush : ContentBlind fun s : State =>
      match s.rxQueue with
      | _ :: rest => { s with rxQueue := rest }
      | [] => s.finish :=
    contentBlind_of_queue (fun _ _ _ _ r m hlen => ⟨r, m, hlen.symm, rfl⟩) fun _ m => ⟨[], m, rfl, rfl⟩
  exact hflush s t h

/-- GPCL's step of a LINK_FETCH or an RX_FLUSH does not inspect received bytes. -/
theorem State.SameButContent.unitStep {s t : State} (h : s.SameButContent t) (env : EnvIn) (hl : s.status.lfState ≠ .idle) :
    (s.unitStep env).SameButContent (t.unitStep env) := by
  unfold State.unitStep
  rw [h.status]
  split
  · split
    next hidle => exact absurd hidle hl
    · exact contentBlind_flushStep env s t h
    all_goals exact contentBlind_linkStep env s t h
  · exact h

/-- Whether a byte would be stored beyond PBUF does not depend on its value. -/
theorem State.SameButContent.strayStore {s t : State} (h : s.SameButContent t) (env : EnvIn) :
    t.strayStore env = s.strayStore env := by
  obtain ⟨q, m, hq, rfl⟩ := h
  have hempty : q.isEmpty = s.rxQueue.isEmpty := by
    rw [Bool.eq_iff_iff, List.isEmpty_iff_length_eq_zero, List.isEmpty_iff_length_eq_zero, hq]
  unfold State.strayStore
  dsimp only
  rw [hempty]
  rfl

/-! ### The cycle -/

/-- A host transaction's effect, of the start state and the state after the step, does not inspect received bytes while a command
runs. -/
def ContentBlindHost (host : State → State → State) : Prop :=
  ∀ s t u v : State, s.SameButContent t → s.status.busy = true → u.SameButContent v →
    (host s u).SameButContent (host t v)

/-- A running command's read of a register returns no received byte (10_state.md R41). -/
theorem State.SameButContent.readReg {s t : State} (h : s.SameButContent t) (hb : s.status.busy = true) (linkUp : Bool)
    (r : HostReg) : readReg linkUp r t = readReg linkUp r s := by
  obtain ⟨q, m, _, rfl⟩ := h
  cases r with
  | pbufData => simp only [Machine.readReg, hb, if_true]
  | fbufData => simp only [Machine.readReg, hb, if_true]
  | _ => rfl

/-- A running command's read moves no window and drives `hrdata`. -/
theorem hostRead_busy {s : State} (hb : s.status.busy = true) (linkUp : Bool) (r : HostReg) (u : State) :
    hostRead linkUp r s u = u.drive (readReg linkUp r s) := by
  obtain h | ⟨hidle, _⟩ | ⟨hidle, _⟩ := hostRead_cases linkUp r s u
  · exact h
  · rw [hb] at hidle; cases hidle
  · rw [hb] at hidle; cases hidle

theorem contentBlindHost_access (linkUp : Bool) (x : HostTxn) : ContentBlindHost (hostAccess linkUp x) := by
  intro s t u v hst hb huv
  have ht : t.status.busy = true := by rw [hst.status, hb]
  have hdrive : ∀ d, ContentBlind (State.drive d) := fun d => contentBlind_of_frame
  have hreject : ContentBlind State.reject := contentBlind_of_frame
  have hccIn : ∀ data, ContentBlind (State.setCcIn data) := fun d => contentBlind_of_frame
  cases x with
  | idle => exact huv
  | read addr =>
    unfold hostAccess
    dsimp only
    split
    next r _ =>
      rw [hostRead_busy hb, hostRead_busy ht, hst.readReg hb]
      exact hdrive _ u v huv
    next => exact hdrive 0 u v huv
  | write addr data =>
    unfold hostAccess
    dsimp only
    split
    next r _ =>
      rw [hb, ht]
      cases hw : writable r with
      | false => rw [hostWrite_readOnly _ _ _ hw, hostWrite_readOnly _ _ _ hw]; exact huv
      | true =>
        by_cases hr : r = .ccIn
        · subst hr
          exact hccIn data u v huv
        · rw [hostWrite_busy data u hw hr, hostWrite_busy data v hw hr]
          exact hreject u v huv
    next => exact huv

/-- The cut of a command leaves PBUF free values, which depend on no received byte (U2). -/
theorem contentBlind_cutMemory : ContentBlind State.cutMemory := by
  refine contentBlind_ite (fun _ _ _ => .rfl) (fun s t h => ?_) contentBlind_id
  have hl : t.status.lfState = s.status.lfState := by rw [h.status]
  rw [hl]
  cases s.status.lfState with
  | idle =>
    exact contentBlind_ite (c := fun s => s.status.lastCmd = 2 ∧ s.int.res = some .success)
      (f := fun s => s.freeFbufPrefix s.pixelCount) (fun _ _ _ => .rfl)
      contentBlind_of_frame contentBlind_id s t h
  | flush => exact h
  | txReady | poll | announce | txContinue | check | read | txRetry | txEnd => exact contentBlind_loseFetched s t h

theorem contentBlindHost_abort :
    ContentBlindHost (fun s0 s1 => if s0.status.busy && s1.status.busy then State.cancel s0 s1 else s1) := by
  intro s t u v hst hb huv
  dsimp only
  rw [hst.status, huv.status]
  split
  · have hend : ContentBlind fun x => State.raise .cancelled (State.dropPulse s x) :=
      contentBlind_of_frame
    have hsame : State.cancel t v = State.raise .cancelled (State.dropPulse s v.cutMemory) := by
      obtain ⟨q, m, _, rfl⟩ := hst
      rfl
    rw [hsame]
    exact hend _ _ (contentBlind_cutMemory u v huv)
  · exact huv

/-- A cycle whose host transaction does not inspect received bytes. -/
theorem cycleWith_content {host : State → State → State} (hh : ContentBlindHost host) {s s' t : State}
    (h : s.SameButContent s') (hb : s.status.busy = true) (hl : s.status.lfState ≠ .idle) (hc : cycleWith host s = .next t) :
    ∃ t', cycleWith host s' = .next t' ∧ t.SameButContent t' := by
  obtain ⟨hstray, rfl⟩ := cycleWith_next hc
  have hbegin := contentBlind_beginCycle s s' h
  have henv : s'.sampled = s.sampled := by
    obtain ⟨q, m, _, rfl⟩ := h
    rfl
  refine ⟨_, cycleWith_of_noStray (by rw [henv, hbegin.strayStore, hstray]), ?_⟩
  rw [henv]
  exact hh s s' _ _ h hb (hbegin.unitStep _ hl)

theorem exec_content (i : Instr) {s s' t : State} (h : s.SameButContent s') (hb : s.status.busy = true)
    (hl : s.status.lfState ≠ .idle) (he : exec i s = .next t) : ∃ t', exec i s' = .next t' ∧ t.SameButContent t' := by
  by_cases ha : i = .abort
  · subst ha
    exact cycleWith_content contentBlindHost_abort h hb hl he
  by_cases hc : ∃ data, i = .conv data
  · obtain ⟨data, rfl⟩ := hc
    have hccIn : ContentBlind (State.setCcIn data) := contentBlind_of_frame
    exact cycleWith_content (fun _ _ u v _ _ huv => hccIn u v huv) h hb hl he
  rw [exec_command ha (not_exists.mp hc)] at he ⊢
  refine cycleWith_content (fun s0 t0 u v hst hbusy huv => ?_) h hb hl he
  have hreject : ContentBlind State.reject := contentBlind_of_frame
  rw [hst.status, if_pos hbusy, if_pos hbusy]
  exact hreject u v huv

theorem contentBlind_resetCycle : ContentBlind resetCycle := by
  have hend : ContentBlind fun x : State =>
      { x with status := Status.reset, regs := Regs.reset, int := Internal.zero, out := PortsOut.reset } :=
    contentBlind_of_frame
  exact hend.comp (contentBlind_cutMemory.comp contentBlind_beginCycle)

/-- A cycle of a running LINK_FETCH or RX_FLUSH does not inspect received bytes. -/
theorem step_content {s s' t : State} (h : s.SameButContent s') (hb : s.status.busy = true) (hl : s.status.lfState ≠ .idle)
    (hstep : step s = .next t) : ∃ t', step s' = .next t' ∧ t.SameButContent t' := by
  have hsampled : s'.sampled = s.sampled := by
    obtain ⟨q, m, _, rfl⟩ := h
    rfl
  obtain ⟨hr, rfl⟩ | ⟨hr, i, hd, he⟩ | ⟨hr, n, hd, he⟩ := step_next hstep
  · exact ⟨_, step_reset (by rw [hsampled, hr]), contentBlind_resetCycle s s' h⟩
  · rw [step_instr (s := s') (by rw [hsampled, hr]) (by rw [hsampled, hd])]
    exact exec_content i h hb hl he
  · rw [step_access (s := s') (by rw [hsampled, hr]) (by rw [hsampled, hd])]
    refine cycleWith_content (fun s0 t0 u v hst hbusy huv => ?_) h hb hl he
    have hsame : t0.sampled = s0.sampled := by
      obtain ⟨q, m, _, rfl⟩ := hst
      rfl
    rw [hsame]
    exact contentBlindHost_access _ _ s0 t0 u v hst hbusy huv

/-- Settles O37: the changed state differs from `s` in received bytes alone, and so do the states after the cycle. -/
theorem receivedContentNotInspected : Obligations.ReceivedContentNotInspected := by
  intro s t q m hb hl hq hstep
  obtain ⟨t', hstep', q', m', hq', rfl⟩ := step_content (s' := { s with rxQueue := q, pbuf := m }) ⟨q, m, hq, rfl⟩ hb hl hstep
  exact ⟨_, hstep', rfl, rfl, rfl, rfl, rfl, hq', rfl⟩

end Sys2Proof.Machine
end

section
/-!
SUPPORT. Runs of prompt cycles (O35, O36, O39; 70_reset_and_hazards.md R320): `Leads k A B` says that `k` of them take every state
with `A` to one with `B`, and is put together from the rules of the single cycles.
-/

namespace Sys2Proof.Machine

/-! ### Every cycle takes its input -/

/-- The engine takes no input sample of its own. -/
theorem FetchMove.inputs {env : EnvIn} {s u : State} (h : FetchMove env s u) : u.inputs = s.inputs := by
  have taken : s.takeByte.inputs = s.inputs := by unfold State.takeByte; split <;> simp
  cases h with
  | timesOut => exact s.loseFetched_inputs
  | fills => rw [State.fullAttempt_eq]; exact taken
  | pulses => unfold State.windowTick; dsimp only; split <;> exact taken
  | takes => exact taken
  | wordByte | readySent | continueSent | retrySent | endSent | waits | frameAnnounced | noFrame | discards | discardsLast
  | opens => rfl

theorem UnitMove.inputs {env : EnvIn} {s u : State} (h : UnitMove env s u) : u.inputs = s.inputs := by
  cases h with
  | parses => obtain ⟨e, c, v, h⟩ | h := s.parseCommit_cases <;> rw [h] <;> rfl
  | decodes => obtain ⟨e, h⟩ | ⟨_, h⟩ := s.decodeCommit_cases <;> rw [h] <;> rfl
  | linkDown => exact s.loseFetched_inputs
  | fetches v _ _ hm => exact (State.countElapsed_inputs _ _ v).trans hm.inputs
  | stays | counts | flushes | flushed | flushDown => rfl

theorem IdleEffect.inputs {x : HostTxn} {linkUp : Bool} {b t : State} (h : IdleEffect x linkUp b t) :
    t.inputs = b.inputs := by
  cases h with
  | write addr data r => cases r <;> simp [writeReg, State.pbufDataWrite]
  | linkFetch =>
    cases he : b.fetchStarted.fetchStartError linkUp with
    | some e => rw [startLinkFetch_some he]; rfl
    | none => rw [startLinkFetch_none he]; rfl
  | rxFlush => cases linkUp <;> rfl
  | none | read | readPbuf | readFbuf | conv | parse | decode | clear | illegal => rfl

theorem BusyEffect.inputs {x : HostTxn} {s u t : State} (h : BusyEffect x s u t) : t.inputs = u.inputs := by
  cases h with
  | cancel => simp
  | none | reject | read | conv => rfl

/-- A cycle takes the first of the coming inputs (10_state.md R21). -/
theorem step_inputs {s t : State} (hstep : step s = .next t) : t.inputs = s.inputs.tail := by
  cases hr : s.sampled.rst with
  | true =>
    rw [step_reset hr] at hstep
    cases hstep
    exact s.beginCycle.cutMemory_inputs
  | false =>
    cases hb : s.status.busy with
    | false => exact (step_idle_effect hstep hr hb).inputs
    | true =>
      exact (step_busy_effect hstep hr hb).inputs.trans (State.unitStep_move s.sampled.env (s := s.beginCycle) hb).inputs

/-! ### Runs -/

/-- A run in two parts. -/
theorem core_run_add {j : Nat} : ∀ {s t : State}, Sys2Proof.core.run j s = .next t →
    ∀ k, Sys2Proof.core.run (j + k) s = Sys2Proof.core.run k t := by
  induction j with
  | zero =>
    intro s t h k
    cases h
    rw [Nat.zero_add]
  | succ j ih =>
    intro s t h k
    cases hs : step s with
    | next u =>
      rw [core_run_succ hs] at h
      rw [Nat.succ_add_eq_add_succ, Nat.add_succ, core_run_succ hs]
      exact ih h k
    | fault f =>
      have hcore : Sys2Proof.core.step s = .fault f := hs
      simp [Host.Core.run, hcore] at h
    | refused f =>
      have hcore : Sys2Proof.core.step s = .refused f := hs
      simp [Host.Core.run, hcore] at h

/-- `k` prompt cycles take every state with `A` to one with `B`. -/
def Leads (k : Nat) (A B : State → Prop) : Prop :=
  ∀ (u : State) (rest : List CycleIn), A u → u.inputs = List.replicate k promptCycle ++ rest →
    ∃ t, Sys2Proof.core.run k u = .next t ∧ B t ∧ t.inputs = rest

namespace Leads
variable {A B C : State → Prop} {j k : Nat}

theorem refl (A : State → Prop) : Leads 0 A A := fun u _ hu hin => ⟨u, rfl, hu, hin⟩

theorem trans (hab : Leads j A B) (hbc : Leads k B C) : Leads (j + k) A C := by
  intro u rest hu hin
  rw [List.replicate_add, List.append_assoc] at hin
  obtain ⟨v, hrun, hv, hmid⟩ := hab u _ hu hin
  obtain ⟨t, hrest, ht, hend⟩ := hbc v rest hv hmid
  exact ⟨t, (core_run_add hrun k).trans hrest, ht, hend⟩

/-- One prompt cycle. -/
theorem step (h : ∀ u : State, A u → u.sampled = promptCycle → ∃ t, Machine.step u = .next t ∧ B t) : Leads 1 A B := by
  intro u rest hu hin
  obtain ⟨t, hstep, ht⟩ := h u hu (State.sampled_of_inputs hin)
  exact ⟨t, core_run_succ hstep 0, ht, by rw [step_inputs hstep, hin]; rfl⟩

/-- `n` rounds of `k` prompt cycles. -/
theorem rounds {n : Nat} {A : Nat → State → Prop} (h : ∀ i < n, Leads k (A i) (A (i + 1))) : Leads (n * k) (A 0) (A n) := by
  induction n with
  | zero => rw [Nat.zero_mul]; exact refl _
  | succ n ih =>
    rw [Nat.succ_mul]
    exact (ih fun i hi => h i (Nat.lt_succ_of_lt hi)).trans (h n n.lt_succ_self)

theorem of_eq (h : Leads j A B) (hjk : j = k) : Leads k A B := hjk ▸ h

/-- The run of the cycle that starts a command, and of the prompt cycles after it. -/
theorem run_after (h : Leads k A B) {s t : State} {first : CycleIn} {rest : List CycleIn} (hstep : Machine.step s = .next t)
    (ht : A t) (hin : s.inputs = first :: (List.replicate k promptCycle ++ rest)) :
    ∃ u, Sys2Proof.core.run (k + 1) s = .next u ∧ B u ∧ u.inputs = rest := by
  obtain ⟨u, hrun, hu, hend⟩ := h t rest ht (by rw [step_inputs hstep, hin]; rfl)
  exact ⟨u, (core_run_succ hstep k).trans hrun, hu, hend⟩

end Leads

/-- The receive queue in a prompt cycle: nothing arrives. -/
theorem applyRx_prompt {u : State} (h : u.sampled = promptCycle) : applyRx u.sampled.env.rx u.rxQueue = u.rxQueue := by
  rw [h]
  exact List.append_nil _

/-- A prompt cycle has no pulse. -/
theorem tickedElapsed_prompt {u : State} (h : u.sampled = promptCycle) : tickedElapsed u = u.regs.elapsedMs := by
  rw [tickedElapsed, h]
  rfl

theorem engineIn_prompt {u : State} {st : LfState} (h : u.sampled = promptCycle) (hb : u.status.busy = true)
    (hl : u.status.lfState = st) : EngineIn st u := by
  refine ⟨?_, ?_, hb, hl, ?_⟩ <;> rw [h] <;> rfl

/-! ### RX_FLUSH -/

/-- A cycle of FLUSH with the link up (42_link_framer.md R205). -/
theorem step_flush {s : State} (h : EngineIn .flush s) : step s = .next (s.beginCycle.flushStep s.sampled.env) := by
  obtain ⟨hr, hh, hb, hl, _⟩ := h
  rw [step_idleHost hr hh (State.strayStore_of_ne_read _ (by rw [State.beginCycle_status, hl]; decide)),
    State.unitStep_flush (s := s.beginCycle) _ hb hl]

theorem State.flushStep_cons {env : EnvIn} {s : State} {b : Byte} {rest : List Byte} (hup : env.linkUp = true)
    (hq : s.rxQueue = b :: rest) : s.flushStep env = { s with rxQueue := rest } := by
  simp [State.flushStep, hup, hq]

theorem State.flushStep_nil {env : EnvIn} {s : State} (hup : env.linkUp = true) (hq : s.rxQueue = []) :
    s.flushStep env = s.finish := by
  simp [State.flushStep, hup, hq]

/-- The cycle of FLUSH: the first clause of O39. -/
theorem flushCycle {s : State} (h : EngineIn .flush s) :
    ∃ t, step s = .next t ∧ t.out.rxReady = true ∧ t.rxQueue = (applyRx s.sampled.env.rx s.rxQueue).tail ∧
      t.txSent = s.txSent ∧ SameMemory s t ∧ t.regs = s.regs ∧
      (if applyRx s.sampled.env.rx s.rxQueue = [] then t.status = doneStatus s.status ∧ t.int.AtRest
      else t.status = s.status ∧ t.int = s.int) := by
  have hstep := step_flush h
  obtain ⟨hready, htx, hrx⟩ := h.channel_takes rfl hstep
  obtain ⟨_, _, _, _, hup⟩ := h
  refine ⟨_, hstep, hready, hrx, htx, ?_⟩
  split
  next hq =>
    rw [State.flushStep_nil (s := s.beginCycle) hup hq]
    exact ⟨sameMemory_of_eq rfl rfl, rfl, rfl, rfl, rfl, rfl, rfl, rfl⟩
  next hq =>
    obtain ⟨b, rest, hq⟩ := List.exists_cons_of_ne_nil hq
    rw [State.flushStep_cons (s := s.beginCycle) hup hq]
    exact ⟨sameMemory_of_eq rfl rfl, rfl, rfl, rfl⟩

/-- An RX_FLUSH that was started in `s` runs, with the bytes `q` still queued. -/
structure State.Flushes (s : State) (q : List Byte) (u : State) : Prop where
  status : u.status = { startedStatus 0x4 s.status with lfState := .flush }
  regs : u.regs = s.regs
  rxQueue : u.rxQueue = q
  txSent : u.txSent = s.txSent
  memory : SameMemory s u

/-- An RX_FLUSH that was started in `s` has ended. -/
structure State.Flushed (s : State) (t : State) : Prop where
  rxQueue : t.rxQueue = []
  status : t.status = doneStatus (startedStatus 0x4 s.status)
  regs : t.regs = s.regs
  int : t.int.AtRest
  memory : SameMemory s t
  txSent : t.txSent = s.txSent

theorem SameMemory.trans {s u t : State} (hsu : SameMemory s u) (hut : SameMemory u t) : SameMemory s t :=
  ⟨fun a => (hut.1 a).trans (hsu.1 a), fun i => (hut.2 i).trans (hsu.2 i)⟩

/-- A prompt cycle of FLUSH discards the oldest byte. -/
theorem leads_flush_byte (s : State) (b : Byte) (q : List Byte) : Leads 1 (s.Flushes (b :: q)) (s.Flushes q) := by
  refine .step fun u hu hin => ?_
  obtain ⟨t, hstep, _, hrx, htx, hmem, hregs, hrest⟩ :=
    flushCycle (engineIn_prompt hin (by rw [hu.status]; rfl) (by rw [hu.status]))
  rw [applyRx_prompt hin, hu.rxQueue] at hrx hrest
  rw [if_neg (List.cons_ne_nil _ _)] at hrest
  exact ⟨t, hstep, hrest.1.trans hu.status, hregs.trans hu.regs, hrx, htx.trans hu.txSent, hu.memory.trans hmem⟩

/-- A prompt cycle of FLUSH with the queue empty ends the command. -/
theorem leads_flush_end (s : State) : Leads 1 (s.Flushes []) s.Flushed := by
  refine .step fun u hu hin => ?_
  obtain ⟨t, hstep, _, hrx, htx, hmem, hregs, hrest⟩ :=
    flushCycle (engineIn_prompt hin (by rw [hu.status]; rfl) (by rw [hu.status]))
  rw [applyRx_prompt hin, hu.rxQueue] at hrx hrest
  rw [if_pos rfl] at hrest
  obtain ⟨hstatus, hint⟩ := hrest
  exact ⟨t, hstep, hrx, by rw [hstatus, hu.status]; rfl, hregs.trans hu.regs, hint, hu.memory.trans hmem,
    htx.trans hu.txSent⟩

/-- RX_FLUSH takes one cycle a byte, and one to find the queue empty. -/
theorem leads_flush (s : State) (q : List Byte) : Leads (q.length + 1) (s.Flushes q) s.Flushed := by
  induction q with
  | nil => exact leads_flush_end s
  | cons b q ih => exact ((leads_flush_byte s b q).trans ih).of_eq (by rw [List.length_cons]; omega)

/-- Settles O39: one cycle, and by induction on the queue the whole run. -/
theorem rxFlushEmptiesQueue : Obligations.RxFlushEmptiesQueue := by
  refine ⟨fun s q h hq => ?_, fun s k rest hb hk hin => ?_⟩
  · subst hq
    exact flushCycle h
  · subst hk
    have hsampled := State.sampled_of_inputs hin
    have hstep : step s = .next (startRxFlush true s.beginCycle) := by
      rw [step_instr (i := .rxFlush) (by rw [hsampled]; rfl) (by rw [hsampled]; rfl), exec_rxFlush, commandCycle_idle _ hb,
        hsampled]
      rfl
    have hrx : applyRx s.sampled.env.rx s.rxQueue = s.rxQueue := by
      rw [hsampled]
      exact List.append_nil _
    have hflushes : s.Flushes s.rxQueue (startRxFlush true s.beginCycle) :=
      ⟨rfl, rfl, hrx, rfl, sameMemory_of_eq rfl rfl⟩
    obtain ⟨t, hrun, ⟨hq, hstatus, hregs, hint, hmem, htx⟩, hend⟩ := (leads_flush s s.rxQueue).run_after hstep hflushes hin
    exact ⟨t, hrun, hq, hstatus, hregs, hint, hmem, htx, hend⟩

end Sys2Proof.Machine
end

section
/-!
SUPPORT. The transfer of a LINK_FETCH with a prompt channel (O35, O36; 42_link_framer.md R186 to R199): the points that the engine
comes by, and the rule that leads from each to the next.
-/

namespace Sys2Proof.Machine

/-! ### The points of a transfer -/

/-- How far the engine is in a state: the next byte of a word, the announcement's bytes discarded, or the packet's bytes taken. -/
def progress : LfState → Internal → Nat
  | .txReady | .txContinue | .txRetry | .txEnd => Internal.txi
  | .announce => Internal.ann
  | .read => Internal.rdn
  | .idle | .poll | .check | .flush => fun _ => 0

/-- A point of a transfer. -/
structure FetchPoint where
  /-- the engine's state -/
  st : LfState
  /-- the progress in that state -/
  count : Nat
  /-- the packets received -/
  packets : Nat
  /-- the bytes sent since the start -/
  sent : List Byte
  /-- the bytes still queued -/
  queue : List Byte
  /-- the payload bytes stored -/
  stored : List Byte

/-- The memories of `u` are those of `s` with `stored` written from address 0 on. -/
structure State.Holds (s : State) (stored : List Byte) (u : State) : Prop where
  written : ∀ i b, stored[i]? = some b → u.pbufByte i = b
  above : ∀ i, stored.length ≤ i → u.pbufByte i = s.pbufByte i
  fbuf : ∀ i, u.fbufPixel i = s.fbufPixel i

theorem State.Holds.start {s u : State} (h : SameMemory s u) : s.Holds [] u :=
  ⟨fun i b hb => by simp at hb, fun i _ => h.1 i, h.2⟩

theorem State.Holds.same {s u t : State} {stored : List Byte} (h : s.Holds stored u) (hut : SameMemory u t) :
    s.Holds stored t :=
  ⟨fun i b hb => (hut.1 i).trans (h.written i b hb), fun i hi => (hut.1 i).trans (h.above i hi),
    fun i => (hut.2 i).trans (h.fbuf i)⟩

/-- The next byte is stored. -/
theorem State.Holds.store {s u t : State} {stored : List Byte} {b : Byte} (h : s.Holds stored u)
    (hb : t.pbufByte stored.length = b) (hp : ∀ x, x ≠ stored.length → t.pbufByte x = u.pbufByte x)
    (hf : ∀ i, t.fbufPixel i = u.fbufPixel i) : s.Holds (stored ++ [b]) t := by
  refine ⟨fun i c hc => ?_, fun i hi => ?_, fun i => (hf i).trans (h.fbuf i)⟩
  · obtain hlt | hge := Nat.lt_or_ge i stored.length
    · rw [List.getElem?_append_left hlt] at hc
      exact (hp i hlt.ne).trans (h.written i c hc)
    · rw [List.getElem?_append_right hge, List.getElem?_singleton] at hc
      split_ifs at hc with h0
      obtain rfl : i = stored.length := by omega
      exact hb.trans (Option.some.inj hc)
  · rw [List.length_append, List.length_singleton] at hi
    exact (hp i (by omega)).trans (h.above i (by omega))

/-- The registers of a transfer that was started in `s`, with packets of `p` bytes, of which `j` are received (R184, R197). -/
def State.fetchRegs (s : State) (p j : Nat) : Regs :=
  { s.regs with
    packetSize := BitVec.ofNat 32 p, pktReceived := BitVec.ofNat 32 j, retryCount := 0, elapsedMs := 0 }

/-- STATUS of a transfer that was started in `s`. -/
def State.fetchStatus (s : State) (st : LfState) : Status :=
  { startedStatus 0x3 s.status with frameValid := false, lfState := st }

/-- The transfer that was started in `s`, with packets of `p` bytes, has come to the point `x` in `u`, with no pulse so far. -/
structure State.At (s : State) (p : Nat) (x : FetchPoint) (u : State) : Prop where
  status : u.status = s.fetchStatus x.st
  regs : u.regs = s.fetchRegs p x.packets
  count : progress x.st u.int = x.count
  txSent : u.txSent = s.txSent ++ x.sent
  rxQueue : u.rxQueue = x.queue
  memory : s.Holds x.stored u

/-- The frame of `s` makes up `n` packets of `p` bytes, and PBUF holds it. -/
structure State.Packets (s : State) (n p : Nat) : Prop where
  count : n = s.regs.packetCount.toNat
  payload : n * p = s.payloadBytes
  count_pos : 0 < n
  size_pos : 0 < p
  fits : n * p ≤ Config.pbufBytes

/-- What the start checks say of the packets (42_link_framer.md R183). -/
theorem State.packets_of_checked {s : State} {linkUp : Bool} (h : s.fetchStartError linkUp = none) :
    s.Packets s.regs.packetCount.toNat (s.payloadBytes / s.regs.packetCount.toNat) := by
  obtain ⟨hw, hh, hn, hdiv, hmax, _⟩ := State.fetchStartError_none h
  have hmul := Nat.mul_div_cancel' (Nat.dvd_of_mod_eq_zero hdiv)
  have hpos : 0 < s.payloadBytes := Nat.mul_pos (Nat.mul_pos hw hh) (by decide)
  exact ⟨rfl, hmul, hn, Nat.div_pos (Nat.le_of_dvd hpos (Nat.dvd_of_mod_eq_zero hdiv)) hn, hmul.le.trans hmax⟩

section
variable {s u : State} {p n : Nat} {x : FetchPoint}

theorem State.At.engineIn (h : s.At p x u) (hin : u.sampled = promptCycle) : EngineIn x.st u :=
  engineIn_prompt hin (by rw [h.status]; rfl) (by rw [h.status]; rfl)

theorem State.At.elapsed (h : s.At p x u) (hin : u.sampled = promptCycle) :
    { u.regs with elapsedMs := tickedElapsed u } = s.fetchRegs p x.packets := by
  rw [tickedElapsed_prompt hin, ← h.regs]

theorem State.At.inTime (h : s.At p x u) : ¬ u.regs.deadlineMs.toNat < u.regs.elapsedMs.toNat := by
  rw [h.regs]
  exact Nat.not_lt_zero _

theorem State.At.pktReceived (h : s.At p x u) (hn : s.Packets n p) (hj : x.packets ≤ n) :
    u.regs.pktReceived.toNat = x.packets := by
  have hmax := s.regs.packetCount.isLt
  rw [← hn.count] at hmax
  rw [h.regs]
  exact (BitVec.toNat_ofNat _ _).trans (Nat.mod_eq_of_lt (lt_of_le_of_lt hj hmax))

theorem State.At.packetSize (h : s.At p x u) (hn : s.Packets n p) : u.regs.packetSize.toNat = p := by
  have hsize : p ≤ Config.pbufBytes := (Nat.le_mul_of_pos_left p hn.count_pos).trans hn.fits
  rw [h.regs]
  exact (BitVec.toNat_ofNat _ _).trans (Nat.mod_eq_of_lt (lt_of_le_of_lt hsize (by decide)))

theorem State.At.packetCount (h : s.At p x u) (hn : s.Packets n p) : u.regs.packetCount.toNat = n := by
  rw [hn.count, h.regs]
  rfl

end

/-! ### The control words -/

section
variable {s : State} {p n : Nat} {st : LfState} {w sent queue stored : List Byte} {j : Nat}

theorem progress_word {st : LfState} {w : List Byte} (hw : controlWord st = some w) : progress st = Internal.txi := by
  cases st with
  | txReady | txContinue | txRetry | txEnd => rfl
  | idle | poll | announce | check | read | flush => cases hw

/-- The bytes of a word but its last. -/
theorem leads_word (hw : controlWord st = some w) :
    Leads (w.length - 1) (s.At p ⟨st, 0, j, sent, queue, stored⟩)
      (s.At p ⟨st, w.length - 1, j, sent ++ w.take (w.length - 1), queue, stored⟩) := by
  have hbyte : ∀ i < w.length - 1, Leads 1 (s.At p ⟨st, i, j, sent ++ w.take i, queue, stored⟩)
      (s.At p ⟨st, i + 1, j, sent ++ w.take (i + 1), queue, stored⟩) := by
    intro i hi
    refine .step fun u hu hin => ?_
    have htxi : u.int.txi = i := by simpa [progress_word hw] using hu.count
    obtain ⟨_, _, _, _, hmoves⟩ := controlWordByteMoves
    obtain ⟨t, hstep, htx, hint, hstatus, hmem, hregs, _, _, _, hrx⟩ :=
      hmoves u st w w[i] (hu.engineIn hin) hw (by rw [hin]; rfl) (by omega) (by rw [htxi]; exact List.getElem?_eq_getElem _)
    refine ⟨t, hstep, hstatus.trans hu.status, ?_, ?_, ?_, ?_, hu.memory.same hmem⟩
    · rw [hregs, tickedElapsed_prompt hin, ite_self]
      exact hu.regs
    · rw [progress_word hw, hint, htxi]
    · rw [htx, hu.txSent, List.append_assoc, List.append_assoc, List.take_add_one, List.getElem?_eq_getElem]
      rfl
    · rw [hrx, applyRx_prompt hin, hu.rxQueue]
  simpa using Leads.rounds hbyte

/-- `ready` is sent in 6 cycles and leads to POLL (42_link_framer.md R186). -/
theorem leads_ready :
    Leads 6 (s.At p ⟨.txReady, 0, j, sent, queue, stored⟩) (s.At p ⟨.poll, 0, j, sent ++ readyWord, queue, stored⟩) := by
  refine (leads_word (w := readyWord) rfl).trans (k := 1) (.step fun u hu hin => ?_)
  obtain ⟨t, hstep, htx, _, _, _, hrx, htxi, hmem, hready, _⟩ :=
    controlWordEnds u _ readyWord (hu.engineIn hin) rfl (by rw [hin]; rfl) (congrArg (· + 1) hu.count)
  obtain ⟨hstatus, hregs⟩ := hready rfl
  refine ⟨t, hstep, ?_, hregs.trans hu.regs, rfl, ?_, ?_, hu.memory.same hmem⟩
  · rw [hstatus, hu.status]; rfl
  · rw [htx, hu.txSent, List.append_assoc, List.append_assoc]; rfl
  · rw [hrx, applyRx_prompt hin, hu.rxQueue]

/-- `continue` is sent in 9 cycles and leads to CHECK while packets are missing (R186, R190). -/
theorem leads_continue (hn : s.Packets n p) (hj : j ≤ n) :
    Leads 9 (s.At p ⟨.txContinue, 0, j, sent, queue, stored⟩)
      (s.At p ⟨if j < n then .check else .txEnd, 0, j, sent ++ continueWord, queue, stored⟩) := by
  refine (leads_word (w := continueWord) rfl).trans (k := 1) (.step fun u hu hin => ?_)
  obtain ⟨t, hstep, htx, _, _, _, hrx, htxi, hmem, _, hcontinue, _⟩ :=
    controlWordEnds u _ continueWord (hu.engineIn hin) rfl (by rw [hin]; rfl) (congrArg (· + 1) hu.count)
  obtain ⟨hstatus, hregs⟩ := hcontinue rfl
  refine ⟨t, hstep, ?_, hregs.trans (hu.elapsed hin), ?_, ?_, ?_, hu.memory.same hmem⟩
  · rw [hstatus, hu.pktReceived hn hj, hu.packetCount hn, hu.status]
    rfl
  · dsimp only
    split_ifs
    · rfl
    · exact htxi
  · rw [htx, hu.txSent, List.append_assoc, List.append_assoc]; rfl
  · rw [hrx, applyRx_prompt hin, hu.rxQueue]

/-- The transfer that was started in `s` has succeeded (R199). -/
structure State.Fetched (s : State) (n p : Nat) (sent queue stored : List Byte) (t : State) : Prop where
  status : t.status = { doneStatus (startedStatus 0x3 s.status) with frameValid := true, hdrValid := false }
  regs : t.regs =
    { s.fetchRegs p n with
      payloadOff := 0, payloadLen := BitVec.ofNat 32 (n * p), srcLen := BitVec.ofNat 32 (n * p), compressed := false }
  memory : s.Holds stored t
  rxQueue : t.rxQueue = queue
  txSent : t.txSent = s.txSent ++ sent

/-- `end` is sent in 4 cycles, and its last byte is the success of the command (R186, R199). -/
theorem leads_end (hn : s.Packets n p) :
    Leads 4 (s.At p ⟨.txEnd, 0, n, sent, queue, stored⟩) (s.Fetched n p (sent ++ endWord) queue stored) := by
  refine (leads_word (w := endWord) rfl).trans (k := 1) (.step fun u hu hin => ?_)
  obtain ⟨t, hstep, htx, _, _, _, hrx, _, hmem, _, _, _, hend⟩ :=
    controlWordEnds u _ endWord (hu.engineIn hin) rfl (by rw [hin]; rfl) (congrArg (· + 1) hu.count)
  obtain ⟨hstatus, _, hregs⟩ := hend rfl
  have hbytes : n * p = u.regs.width.toNat * u.regs.height.toNat * 2 := by rw [hn.payload, hu.regs]; rfl
  refine ⟨t, hstep, ?_, ?_, hu.memory.same hmem, ?_, ?_⟩
  · rw [hstatus, hu.status]; rfl
  · rw [hregs, ← hbytes, hu.regs]
  · rw [hrx, applyRx_prompt hin, hu.rxQueue]
  · rw [htx, hu.txSent, List.append_assoc, List.append_assoc]; rfl

/-! ### The announcement -/

/-- POLL and ANNOUNCE take 3 cycles with the two bytes queued (42_link_framer.md R188, R189). -/
theorem leads_announcement (a0 a1 : Byte) :
    Leads 3 (s.At p ⟨.poll, 0, j, sent, a0 :: a1 :: queue, stored⟩)
      (s.At p ⟨.txContinue, 0, j, sent, queue, stored⟩) := by
  have hpoll : Leads 1 (s.At p ⟨.poll, 0, j, sent, a0 :: a1 :: queue, stored⟩)
      (s.At p ⟨.announce, 0, j, sent, a0 :: a1 :: queue, stored⟩) := by
    refine .step fun u hu hin => ?_
    obtain ⟨t, hstep, hmem, ⟨htx, hrx⟩, hfound⟩ := pollDecides u _ (hu.engineIn hin) rfl
    rw [applyRx_prompt hin] at hrx hfound
    rw [if_neg (by rw [hu.rxQueue]; exact List.cons_ne_nil _ _)] at hfound
    obtain ⟨hstatus, hregs, hint⟩ := hfound
    refine ⟨t, hstep, ?_, ?_, ?_, htx.trans hu.txSent, hrx.trans hu.rxQueue, hu.memory.same hmem⟩
    · rw [hstatus, hu.status]; rfl
    · rw [hregs, hu.regs]; rfl
    · rw [hint]; rfl
  have hbyte : ∀ (i : Nat) (b : Byte) (q : List Byte), i < 2 →
      Leads 1 (s.At p ⟨.announce, i, j, sent, b :: q, stored⟩)
        (s.At p ⟨if i = 1 then .txContinue else .announce, if i = 1 then 0 else 1, j, sent, q, stored⟩) := by
    intro i b q hi
    refine .step fun u hu hin => ?_
    have hann : u.int.ann = i := hu.count
    obtain ⟨t, hstep, _, htx, hrx, hfound⟩ := announceDiscardsTwoBytes u _ (hu.engineIn hin) (by omega) rfl
    rw [applyRx_prompt hin] at hrx hfound
    rw [if_pos (by rw [hu.rxQueue]; exact List.cons_ne_nil _ _)] at hfound
    obtain ⟨hmem, hregs, hlast⟩ := hfound
    rw [hann] at hlast
    have hqueue : t.rxQueue = q := by rw [hrx, hu.rxQueue]; rfl
    split_ifs at hlast ⊢
    · obtain ⟨hstatus, hint⟩ := hlast
      exact ⟨t, hstep, by rw [hstatus, hu.status]; rfl, hregs.trans (hu.elapsed hin), by rw [hint]; rfl, htx.trans hu.txSent,
        hqueue, hu.memory.same hmem⟩
    · obtain ⟨hstatus, hint⟩ := hlast
      exact ⟨t, hstep, hstatus.trans hu.status, hregs.trans (hu.elapsed hin), by rw [hint]; rfl, htx.trans hu.txSent,
        hqueue, hu.memory.same hmem⟩
  exact (hpoll.trans (hbyte 0 a0 (a1 :: queue) (by decide))).trans (hbyte 1 a1 queue (by decide))

/-! ### A packet -/

/-- CHECK opens a read attempt in one cycle (42_link_framer.md R191). -/
theorem leads_check :
    Leads 1 (s.At p ⟨.check, 0, j, sent, queue, stored⟩) (s.At p ⟨.read, 0, j, sent, queue, stored⟩) := by
  refine .step fun u hu hin => ?_
  obtain ⟨t, hstep, ⟨htx, hrx⟩, hopen⟩ := checkTestsDeadline u (hu.engineIn hin)
  rw [if_neg hu.inTime] at hopen
  obtain ⟨hstatus, hint, hmem, hregs⟩ := hopen
  refine ⟨t, hstep, ?_, hregs.trans (hu.elapsed hin), ?_, htx.trans hu.txSent, ?_, hu.memory.same hmem⟩
  · rw [hstatus, hu.status]; rfl
  · rw [hint]; rfl
  · rw [hrx, applyRx_prompt hin, hu.rxQueue]

/-- The engine's state once `j` packets are received, of `n` (R197). -/
def afterPacket (s : State) (n j : Nat) : LfState :=
  if j < n ∨ s.regs.lastCont = true then .txContinue else .txEnd

/-- READ stores a queued byte behind those it has stored; the packet's last byte fills the attempt (R195 to R197). -/
theorem leads_read_byte (hn : s.Packets n p) (hj : j < n) {c : Nat} (hc : c < p) (hlen : stored.length = j * p + c)
    (b : Byte) :
    Leads 1 (s.At p ⟨.read, c, j, sent, b :: queue, stored⟩)
      (s.At p
        (if c + 1 = p then ⟨afterPacket s n (j + 1), 0, j + 1, sent, queue, stored ++ [b]⟩
        else ⟨.read, c + 1, j, sent, queue, stored ++ [b]⟩)) := by
  refine .step fun u hu hin => ?_
  have hpkt := hu.pktReceived hn hj.le
  have hsize := hu.packetSize hn
  have hrdn : u.int.rdn = c := hu.count
  have haddr : stored.length = u.regs.pktReceived.toNat * u.regs.packetSize.toNat + u.int.rdn := by
    rw [hpkt, hsize, hrdn, hlen]
  have hwithin : stored.length < Config.pbufBytes :=
    calc stored.length = j * p + c := hlen
      _ < (j + 1) * p := by rw [Nat.succ_mul]; exact Nat.add_lt_add_left hc _
      _ ≤ n * p := Nat.mul_le_mul_right p hj
      _ ≤ Config.pbufBytes := hn.fits
  have hq : applyRx u.sampled.env.rx u.rxQueue = b :: queue := by rw [applyRx_prompt hin, hu.rxQueue]
  obtain ⟨t, hstep, _, htx, hrx, hbyte, hkeep, hfbuf, hcount, hcases⟩ :=
    readAttemptCycle u (b :: queue) (c + 1) stored.length (hu.engineIn hin) hq.symm haddr hwithin
      (by rw [if_neg (List.cons_ne_nil _ _), hrdn])
  have hmem : s.Holds (stored ++ [b]) t := hu.memory.store (hbyte b rfl) (fun x hx => hkeep x (.inr hx)) hfbuf
  refine ⟨t, hstep, ?_⟩
  by_cases hfull : c + 1 = p
  · rw [if_pos (hfull.trans hsize.symm)] at hcases
    rw [if_pos hfull]
    obtain ⟨hregs, htxi, hstatus⟩ := hcases
    have hnext : u.regs.pktReceived + 1 = BitVec.ofNat 32 (j + 1) :=
      BitVec.eq_of_toNat_eq (by rw [BitVec.toNat_add, hpkt]; rfl)
    have hreceived : (BitVec.ofNat 32 (j + 1)).toNat = j + 1 := by
      have hmax := s.regs.packetCount.isLt
      rw [← hn.count] at hmax
      exact (BitVec.toNat_ofNat _ _).trans (Nat.mod_eq_of_lt (by omega))
    rw [hnext, hreceived, hu.packetCount hn] at hstatus
    refine ⟨?_, ?_, ?_, htx.trans hu.txSent, hrx, hmem⟩
    · rw [hstatus, hu.status, hu.regs]
      rfl
    · rw [hregs, hnext, tickedElapsed_prompt hin, hu.regs]
      rfl
    · unfold afterPacket
      dsimp only
      split_ifs <;> exact htxi
  · rw [if_neg (by rw [hsize]; exact hfull), if_neg (by rw [hin]; nofun)] at hcases
    rw [if_neg hfull]
    obtain ⟨hregs, _, _, hstatus⟩ := hcases
    exact ⟨hstatus.trans hu.status, hregs.trans (hu.elapsed hin), hcount, htx.trans hu.txSent, hrx, hmem⟩

/-- A read attempt with the packet's bytes queued takes one cycle a byte. -/
theorem leads_read (hn : s.Packets n p) (hj : j < n) (packet : List Byte) : ∀ {c : Nat} {stored : List Byte},
    packet ≠ [] → c + packet.length = p → stored.length = j * p + c →
    Leads packet.length (s.At p ⟨.read, c, j, sent, packet ++ queue, stored⟩)
      (s.At p ⟨afterPacket s n (j + 1), 0, j + 1, sent, queue, stored ++ packet⟩) := by
  induction packet with
  | nil => intro c stored hne; exact absurd rfl hne
  | cons b packet ih =>
    intro c stored _ hc hlen
    rw [List.length_cons] at hc
    have hbyte := leads_read_byte (sent := sent) (queue := packet ++ queue) hn hj (by omega) hlen b
    cases packet with
    | nil =>
      rw [if_pos (by simpa using hc)] at hbyte
      exact hbyte
    | cons b' packet =>
      rw [if_neg (by rw [List.length_cons] at hc; omega)] at hbyte
      have hrest := ih (c := c + 1) (stored := stored ++ [b]) (List.cons_ne_nil _ _) (by omega)
        (by rw [List.length_append, hlen, List.length_singleton]; omega)
      rw [List.append_assoc] at hrest
      exact (hbyte.trans hrest).of_eq (Nat.add_comm _ _)

/-- A packet takes `10 + p` cycles: `continue`, CHECK and its bytes. -/
theorem leads_packet (hn : s.Packets n p) (hj : j < n) {packet : List Byte} (hp : packet.length = p)
    (hlen : stored.length = j * p) :
    Leads (p + 10) (s.At p ⟨.txContinue, 0, j, sent, packet ++ queue, stored⟩)
      (s.At p ⟨afterPacket s n (j + 1), 0, j + 1, sent ++ continueWord, queue, stored ++ packet⟩) := by
  have hne : packet ≠ [] := List.ne_nil_of_length_pos (hp ▸ hn.size_pos)
  have hcontinue := leads_continue (sent := sent) (queue := packet ++ queue) (stored := stored) hn hj.le
  rw [if_pos hj] at hcontinue
  exact ((hcontinue.trans leads_check).trans
    (leads_read hn hj packet hne (by omega) hlen)).of_eq (by omega)

end

end Sys2Proof.Machine
end

section
/-!
SUPPORT. The two runs of a LINK_FETCH with a prompt channel, from its write on (O35, O36; 70_reset_and_hazards.md R320).
-/

namespace Sys2Proof.Machine

/-- The cycle that presents LINK_FETCH, with every start check passed, begins the transfer (42_link_framer.md R183, R184). -/
theorem step_promptFetch {s : State} (hb : s.status.busy = false) (hcheck : s.fetchStartError true = none)
    (hsampled : s.sampled = promptCommand 3) :
    ∃ t, step s = .next t ∧
      s.At (s.payloadBytes / s.regs.packetCount.toNat) ⟨.txReady, 0, 0, [], s.rxQueue, []⟩ t := by
  have hstep : step s = .next s.beginCycle.fetchStarted.prepareFetch := by
    rw [step_instr (i := .linkFetch) (by rw [hsampled]; rfl) (by rw [hsampled]; rfl), exec_linkFetch_idle hb, hsampled]
    exact congrArg _ (startLinkFetch_none (s := s.beginCycle) hcheck)
  have hrx : applyRx s.sampled.env.rx s.rxQueue = s.rxQueue := by
    rw [hsampled]
    exact List.append_nil _
  exact ⟨_, hstep, rfl, rfl, rfl, (List.append_nil _).symm, hrx, .start (sameMemory_of_eq rfl rfl)⟩

/-! ### No frame -/

/-- A LINK_FETCH that was started in `s` has found no frame (42_link_framer.md R188). -/
structure State.FoundNone (s : State) (sent : List Byte) (t : State) : Prop where
  status : t.status = doneStatus { s.fetchStatus .poll with noframe := true }
  txSent : t.txSent = s.txSent ++ sent
  memory : s.Holds [] t

/-- POLL's cycle with the queue empty. -/
theorem leads_noFrame (s : State) (p j : Nat) (sent : List Byte) :
    Leads 1 (s.At p ⟨.poll, 0, j, sent, [], []⟩) (s.FoundNone sent) := by
  refine .step fun u hu hin => ?_
  obtain ⟨t, hstep, hmem, ⟨htx, _⟩, hnone⟩ := pollDecides u _ (hu.engineIn hin) rfl
  rw [if_pos (by rw [applyRx_prompt hin, hu.rxQueue])] at hnone
  refine ⟨t, hstep, ?_, htx.trans hu.txSent, hu.memory.same hmem⟩
  rw [hnone.1, hu.status]

/-- Settles O35: the write, the 6 bytes of `ready`, and POLL's cycle. -/
theorem noFramePollTakesSevenCycles : Obligations.NoFramePollTakesSevenCycles := by
  intro s rest hb hqueue hin hcheck
  obtain ⟨u, hstep, hu⟩ := step_promptFetch hb hcheck (State.sampled_of_inputs hin)
  rw [hqueue] at hu
  obtain ⟨t, hrun, ⟨hstatus, htx, hmem⟩, hend⟩ := (leads_ready.trans (leads_noFrame s _ 0 _)).run_after hstep hu hin
  refine ⟨t, hrun, htx, ?_, ?_, ?_, ?_, ?_, ?_, ⟨fun a => hmem.above a (Nat.zero_le _), hmem.fbuf⟩, hend⟩ <;>
    rw [hstatus] <;> rfl

/-! ### The whole transfer -/

section
variable {s : State} {n p : Nat} {payload more : List Byte}

/-- The bytes sent when `j` packets are received. -/
def sentAfter (j : Nat) : List Byte :=
  readyWord ++ (List.replicate j continueWord).flatten

theorem sentAfter_succ (j : Nat) : sentAfter (j + 1) = sentAfter j ++ continueWord := by
  simp [sentAfter, List.replicate_succ', List.flatten_append]

/-- The point of a transfer of `payload` with `j` packets received, of `n`. -/
def packetPoint (s : State) (n p : Nat) (payload more : List Byte) (j : Nat) : FetchPoint :=
  ⟨afterPacket s n j, 0, j, sentAfter j, payload.drop (j * p) ++ more, payload.take (j * p)⟩

/-- The packets of a transfer take `p + 10` cycles each (42_link_framer.md R190 to R197). -/
theorem leads_packets (hn : s.Packets n p) (hlen : payload.length = n * p) :
    Leads (n * (p + 10)) (s.At p (packetPoint s n p payload more 0)) (s.At p (packetPoint s n p payload more n)) := by
  refine Leads.rounds (A := fun j => s.At p (packetPoint s n p payload more j)) fun j hj => ?_
  have hjp : (j + 1) * p ≤ payload.length := hlen ▸ Nat.mul_le_mul_right p hj
  have hnext : (j + 1) * p = j * p + p := Nat.succ_mul j p
  have hpacket : ((payload.drop (j * p)).take p).length = p := by
    rw [List.length_take, List.length_drop]
    omega
  have hstored : (payload.take (j * p)).length = j * p := by
    rw [List.length_take]
    omega
  have hround := leads_packet (sent := sentAfter j) (queue := payload.drop ((j + 1) * p) ++ more) hn hj hpacket hstored
  have hqueue : (payload.drop (j * p)).take p ++ (payload.drop ((j + 1) * p) ++ more) = payload.drop (j * p) ++ more := by
    rw [← List.append_assoc, hnext, ← List.drop_drop, List.take_append_drop]
  have htaken : payload.take (j * p) ++ (payload.drop (j * p)).take p = payload.take ((j + 1) * p) := by
    rw [hnext, List.take_add]
  have hcontinue : afterPacket s n j = .txContinue := if_pos (.inl hj)
  rw [hqueue, htaken, ← sentAfter_succ] at hround
  simpa only [packetPoint, hcontinue] using hround

/-- With all packets received the engine sends a last `continue`, if LAST_CONT is 1, and `end` (42_link_framer.md R197, R199). -/
theorem leads_close (hn : s.Packets n p) (hlen : payload.length = n * p) :
    Leads ((if s.regs.lastCont then 9 else 0) + 4) (s.At p (packetPoint s n p payload more n))
      (s.Fetched n p (successStream (if s.regs.lastCont then n + 1 else n)) more payload) := by
  have hqueue : payload.drop (n * p) = [] := List.drop_eq_nil_of_le hlen.le
  have hstored : payload.take (n * p) = payload := List.take_of_length_le hlen.le
  unfold packetPoint
  rw [hqueue, hstored, List.nil_append]
  cases hlast : s.regs.lastCont with
  | true =>
    have hcontinue := leads_continue (sent := sentAfter n) (queue := more) (stored := payload) hn (Nat.le_refl n)
    rw [if_neg (Nat.lt_irrefl n), ← sentAfter_succ] at hcontinue
    have hpoint : afterPacket s n n = .txContinue := if_pos (.inr hlast)
    rw [hpoint]
    exact hcontinue.trans (leads_end hn)
  | false =>
    have hpoint : afterPacket s n n = .txEnd := if_neg (by simp [hlast])
    rw [hpoint]
    exact (leads_end hn).of_eq rfl

/-- The transfer from its write on: `ready`, the announcement, the packets, and its close. -/
theorem leads_transfer (hn : s.Packets n p) (hlen : payload.length = n * p) (a0 a1 : Byte) :
    Leads ((if s.regs.lastCont then 22 else 13) + n * (p + 10))
      (s.At p ⟨.txReady, 0, 0, [], a0 :: a1 :: (payload ++ more), []⟩)
      (s.Fetched n p (successStream (if s.regs.lastCont then n + 1 else n)) more payload) := by
  have hopen := (leads_ready (s := s) (p := p) (j := 0) (sent := []) (stored := [])).trans
    (leads_announcement (queue := payload ++ more) a0 a1)
  have hfirst : packetPoint s n p payload more 0 = ⟨.txContinue, 0, 0, readyWord, payload ++ more, []⟩ := by
    have hcontinue : afterPacket s n 0 = .txContinue := if_pos (.inl hn.count_pos)
    simp [packetPoint, hcontinue, sentAfter]
  have hpackets := leads_packets (more := more) hn hlen
  rw [hfirst] at hpackets
  exact ((hopen.trans hpackets).trans (leads_close hn hlen)).of_eq (by split_ifs <;> omega)

end

/-- Settles O36: the write begins the transfer, whose parts take the cycles that the statement counts. -/
theorem promptTransferSucceeds : Obligations.PromptTransferSucceeds := by
  rintro s n p c k a0 a1 payload more rest hb hcheck rfl rfl rfl rfl hqueue hlen hin
  have hn := State.packets_of_checked hcheck
  obtain ⟨u, hstep, hu⟩ := step_promptFetch hb hcheck (State.sampled_of_inputs hin)
  rw [hqueue] at hu
  obtain ⟨t, hrun, ⟨hstatus, hregs, hmem, hrx, htx⟩, hend⟩ :=
    (leads_transfer (more := more) hn hlen a0 a1).run_after hstep hu hin
  refine ⟨t, hrun, hstatus, ?_, hmem.written, fun i hi => hmem.above i (hlen.le.trans hi), hmem.fbuf, hrx, htx, hend⟩
  rw [hregs]
  simp only [State.fetchRegs, BitVec.ofNat_toNat, BitVec.setWidth_eq]
  rfl

end Sys2Proof.Machine
end

section
/-!
SUPPORT. DECODE's commit (O21, O22; 43_frame_decoder.md R230 to R239): which check ends it, in R237's order, and what each end leaves.
-/

namespace Sys2Proof.Machine

/-! ### The checks -/

/-- R231: a compressed payload. -/
theorem State.decodeError_compressed {s : State} (hcompressed : s.regs.compressed = true) :
    s.decodeError = some .unsupportedCompression :=
  if_pos hcompressed

section
variable {s : State} {n : Nat} (hn : n = s.regs.width.toNat * s.regs.height.toNat)
  (hplain : ¬ s.regs.compressed = true)

include hplain in
/-- R232: a frame without pixels. -/
theorem State.decodeError_noGeometry (hgeometry : s.regs.width = 0 ∨ s.regs.height = 0) :
    s.decodeError = some .invalidGeometry :=
  (if_neg hplain).trans (if_pos hgeometry)

variable (hgeometry : ¬ (s.regs.width = 0 ∨ s.regs.height = 0))
include hn hplain hgeometry

/-- R233: the payload is not the frame's size. -/
theorem State.decodeError_otherSize (hsize : s.regs.payloadLen.toNat ≠ n * 2) :
    s.decodeError = some .payloadSizeMismatch := by
  subst hn
  exact (if_neg hplain).trans ((if_neg hgeometry).trans (if_pos hsize))

variable (hsize : ¬ s.regs.payloadLen.toNat ≠ n * 2)
include hsize

/-- With a payload of the frame's size, the ranges are left to check (R237). -/
theorem State.decodeError_sized :
    s.decodeError =
      if Config.fbufPixels < n ∨ Config.pbufBytes < s.regs.srcLen.toNat ∨
          s.regs.srcLen.toNat < s.regs.payloadOff.toNat + s.regs.payloadLen.toNat then some .configInvalid
      else none := by
  subst hn
  exact (if_neg hplain).trans ((if_neg hgeometry).trans (if_neg hsize))

end

/-! ### The two ends -/

/-- A check that fails ends the command before any write (R238). -/
theorem State.decodeCommit_fails {s : State} {e : ErrCode} (he : s.decodeError = some e) :
    s.decodeCommit = s.raise e := by
  rw [State.decodeCommit, he]

/-- With every check passed, the payload is converted (R235, R236). -/
theorem State.decodeCommit_succeeds {s : State} (he : s.decodeError = none) :
    s.decodeCommit = s.convertPayload.setPixValid.finish := by
  rw [State.decodeCommit, he]

@[simp] theorem State.decodeCommit_regs (s : State) : s.decodeCommit.regs = s.regs := by
  obtain ⟨e, h⟩ | ⟨_, h⟩ := s.decodeCommit_cases <;> rw [h] <;> rfl

@[simp] theorem State.decodeCommit_int (s : State) : s.decodeCommit.int = Internal.zero := by
  obtain ⟨e, h⟩ | ⟨_, h⟩ := s.decodeCommit_cases <;> rw [h] <;> rfl

theorem State.decodeCommit_atRest (s : State) : s.decodeCommit.int.AtRest := by
  rw [State.decodeCommit_int]
  exact ⟨rfl, rfl, rfl, rfl, rfl⟩

/-! ### The cycle of the commit -/

/-- The cycle in which a DECODE ends writes no register but STATUS and no PBUF byte, and moves no byte (R239). -/
theorem beginCycle_decodeCommit_frame (s : State) :
    s.beginCycle.decodeCommit.regs = s.regs ∧ (∀ a, s.beginCycle.decodeCommit.pbufByte a = s.pbufByte a) ∧
      NoByteMoved s s.beginCycle.decodeCommit :=
  ⟨s.beginCycle.decodeCommit_regs, State.pbufByte_congr s.beginCycle.decodeCommit_pbuf,
    s.beginCycle.decodeCommit_txSent, s.beginCycle.decodeCommit_rxQueue⟩

/-- A DECODE that fails leaves its error in STATUS and both memories as they were (R237, R238). -/
theorem beginCycle_decodeCommit_fails {s : State} {e : ErrCode} (he : s.decodeError = some e) :
    s.beginCycle.decodeCommit.status = errorStatus e s.status ∧ SameMemory s s.beginCycle.decodeCommit := by
  rw [State.decodeCommit_fails (s := s.beginCycle) he]
  exact ⟨rfl, sameMemory_of_eq rfl rfl⟩

/-- A DECODE that succeeds sets PIX_VALID (R236). -/
theorem beginCycle_decodeCommit_status {s : State} (he : s.decodeError = none) :
    s.beginCycle.decodeCommit.status = doneStatus { s.status with pixValid := true } := by
  rw [State.decodeCommit_succeeds (s := s.beginCycle) he]
  rfl

/-- What a DECODE that succeeds leaves at each FBUF index (R235, R236). -/
theorem beginCycle_decodeCommit_fbufPixel {s : State} (he : s.decodeError = none) (i : Nat) :
    s.beginCycle.decodeCommit.fbufPixel i = if i < s.pixelCount then convPixel (s.payloadSample i) else s.fbufPixel i := by
  rw [State.decodeCommit_succeeds (s := s.beginCycle) he]
  exact State.fbufPixel_convertPayload i s.beginCycle

/-- Settles O21: no check of R237 fails, so the commit converts the payload. -/
theorem decodeSuccess : Obligations.DecodeSuccess := by
  intro s n hending hn hplain hwidth hheight hsize hpixels hsource hinside
  have hranges : ¬ (Config.fbufPixels < n ∨ Config.pbufBytes < s.regs.srcLen.toNat ∨
      s.regs.srcLen.toNat < s.regs.payloadOff.toNat + s.regs.payloadLen.toNat) := by omega
  have hnone : s.decodeError = none :=
    (State.decodeError_sized hn (Bool.eq_false_iff.mp hplain) (not_or.mpr ⟨hwidth, hheight⟩) (not_not.mpr hsize)).trans
      (if_neg hranges)
  have hpixel := beginCycle_decodeCommit_fbufPixel hnone
  obtain ⟨hregs, hpbuf, hbytes⟩ := beginCycle_decodeCommit_frame s
  subst hn
  exact ⟨_, step_decodeEnding hending, fun i hi => (hpixel i).trans (if_pos hi),
    fun i hi => (hpixel i).trans (if_neg (Nat.not_lt.mpr hi)), hpbuf, hregs, beginCycle_decodeCommit_status hnone,
    s.beginCycle.decodeCommit_atRest, hbytes⟩

/-- Settles O22: the statement's cases are the checks, in R237's order. -/
theorem decodeErrors : Obligations.DecodeErrors := by
  intro s n hending hn
  obtain ⟨hregs, hpbuf, hbytes⟩ := beginCycle_decodeCommit_frame s
  refine ⟨_, step_decodeEnding hending, hregs, hpbuf, hbytes, ?_⟩
  split
  next hcompressed => exact beginCycle_decodeCommit_fails (State.decodeError_compressed hcompressed)
  next hplain =>
  split
  next hgeometry => exact beginCycle_decodeCommit_fails (State.decodeError_noGeometry hplain hgeometry)
  next hgeometry =>
  split
  next hsize => exact beginCycle_decodeCommit_fails (State.decodeError_otherSize hn hplain hgeometry hsize)
  next hsize =>
  have hsized := State.decodeError_sized hn hplain hgeometry hsize
  split
  next hrange => exact beginCycle_decodeCommit_fails (hsized.trans (if_pos hrange))
  next hrange =>
    rw [beginCycle_decodeCommit_status (hsized.trans (if_neg hrange))]
    exact ⟨rfl, rfl⟩

end Sys2Proof.Machine
end

section
/-!
SUPPORT. The run of a DECODE (O23; 44_control_commands.md R250, R251, 10_state.md R45): it is the run of a frame command, as PARSE's.
-/

namespace Sys2Proof.Machine

/-- The checks read neither `I.lat` nor what the surroundings change, and the ends carry both along. -/
theorem State.decodeCommit_withSurroundings (x s : State) :
    (State.withSurroundings x s).decodeCommit = State.withSurroundings x s.decodeCommit := by
  have herror : (State.withSurroundings x s).decodeError = s.decodeError := rfl
  cases he : s.decodeError with
  | some e =>
    rw [State.decodeCommit_fails (herror.trans he), State.decodeCommit_fails he]
    rfl
  | none =>
    rw [State.decodeCommit_succeeds (herror.trans he), State.decodeCommit_succeeds he]
    rfl

/-- A commit clears `I.lat` unread. -/
theorem State.decodeCommit_countCycle (s : State) : s.countCycle.decodeCommit = s.decodeCommit := rfl

theorem frameCommand_decode : FrameCommand 2 State.decodeCommit where
  unitStep env s hrun := by
    obtain ⟨hb, hl, hop⟩ := hrun
    simp only [State.unitStep, hb, hl, hop, if_true]
    rfl
  countCycle := State.decodeCommit_countCycle
  withSurroundings := State.decodeCommit_withSurroundings

/-- The run of a frame command from the cycle before its first: `u` is the state it runs from, and `mid` are the inputs of all the
cycles that `I.lat` has left. -/
theorem FrameCommand.run_after {op : BitVec 4} {commit : State → State} (hcmd : FrameCommand op commit) {s u : State}
    {mid rest : List CycleIn} (hstep : step s = .next u) (hrun : u.RunsFrame op) (hin : u.inputs = mid ++ rest)
    (hlength : mid.length = u.int.lat) (hlat : 1 ≤ u.int.lat) (hall : ∀ i ∈ mid, undisturbed i = true) :
    ∃ t, Sys2Proof.core.run (u.int.lat + 1) s = .next t ∧ t.AgreesWith (commit u) ∧ t.inputs = rest := by
  obtain ⟨first, later, rfl⟩ := List.exists_cons_of_length_pos (hlength ▸ hlat)
  obtain ⟨t, ht, hagree, hleft⟩ := hcmd.run later first u hrun hin hlength hall
  exact ⟨t, (core_run_succ hstep _).trans (hlength ▸ ht), hagree, hleft⟩

/-- The cycle that presents DECODE with no command running starts it (R250). -/
theorem step_startsDecode {s : State} (hidle : s.status.busy = false) (hr : s.sampled.rst = false)
    (hd : Sys2Proof.decode s.sampled.host = .ok .decode) : step s = .next (startDecode s.beginCycle) := by
  rw [step_instr hr hd, exec_decode, commandCycle_idle _ hidle]

/-- Settles O23: the first cycle starts the command on the operands of `s`, and the run of its `P_DECODE_LATENCY` cycles commits
them. -/
theorem decodeRunsToItsOutcome : Obligations.DecodeRunsToItsOutcome := by
  intro s r first mid rest hidle hlf hin hfirst hdecode hlength hall hr
  have hsampled : s.sampled = first := State.sampled_of_inputs hin
  have hstart : step s = .next (startDecode s.beginCycle) :=
    step_startsDecode hidle (by rw [hsampled, hfirst]) (by rw [hsampled, hdecode])
  have hrun : (startDecode s.beginCycle).RunsFrame 2 := ⟨rfl, hlf, rfl⟩
  have hinputs : (startDecode s.beginCycle).inputs = mid ++ rest := congrArg List.tail hin
  obtain ⟨t, ht, hagree, hleft⟩ :=
    frameCommand_decode.run_after hstart hrun hinputs hlength (Nat.succ_pos _) hall
  have hcommit : t.AgreesWith r := by
    rw [hr]
    exact hagree.trans (frameCommand_decode.commit_agreesWith rfl)
  obtain ⟨e, pv, hended⟩ := (startDecode s).decodeCommit_status
  have hregs : r.regs = s.regs := by rw [hr, State.decodeCommit_regs]; rfl
  have hpbuf : r.pbuf = s.pbuf := by rw [hr, State.decodeCommit_pbuf]; rfl
  have hsent : r.txSent = s.txSent := by rw [hr, State.decodeCommit_txSent]; rfl
  refine ⟨t, ht, hregs ▸ hcommit.regs, hcommit.status, ?_, ?_, ?_, State.pbufByte_congr (hcommit.pbuf.trans hpbuf),
    State.fbufPixel_congr hcommit.fbuf, hcommit.txSent.trans hsent, hleft⟩
  · rw [hcommit.status, hr, hended]
  · rw [hcommit.status, hr, hended]
  · rw [hcommit.int, hr]
    exact State.decodeCommit_atRest _

end Sys2Proof.Machine
end

section
/-!
SUPPORT. The control commands and the starts of the frame commands (O10 to O14, O16, O20; 44_control_commands.md R250 to R255): what
a CMD write does with no command running and while one runs, and what an ABORT that cancels leaves in memory.
-/

namespace Sys2Proof.Machine

/-! ### A command's cycle -/

/-- With no command running, a cycle whose transaction touches neither the memories nor the channel has quiet ports
(42_link_framer.md R182). -/
theorem frame_of_idle {s t : State} (hb : s.status.busy = false) (hpbuf : t.pbuf = s.pbuf) (hfbuf : t.fbuf = s.fbuf)
    (htx : t.txSent = s.txSent) (hrx : t.rxQueue = s.beginCycle.rxQueue) (hout : t.out = s.beginCycle.out) :
    SameMemory s t ∧ NoByteMoved s t ∧ QuietPorts t := by
  refine ⟨sameMemory_of_eq hpbuf hfbuf, ⟨htx, hrx⟩, ?_⟩
  rw [QuietPorts, hout, State.beginCycle_out, State.ports_idle _ hb]
  exact ⟨rfl, rfl⟩

/-- A command's opcode names it in the opcode map (30_encoding.md R101). -/
theorem decodeOpcode_of_opcodeOf {i : Instr} {op : BitVec 4} (h : opcodeOf i = some op) : decodeOpcode op = i := by
  cases i with
  | conv data => cases h
  | _ => cases h; rfl

/-! ### NOP, CLEAR and the reserved opcodes -/

/-- Settles O10: NOP's effect is the identity, and R45 refuses it while a command runs. -/
theorem nopChangesNothing : Obligations.NopChangesNothing := by
  refine ⟨decode_write_cmd (by decide) rfl, fun s => ⟨fun hb => ?_, fun hb hs => ?_⟩⟩
  · exact ⟨_, (exec_nop s).trans (commandCycle_idle _ hb), rfl, rfl, rfl, frame_of_idle hb rfl rfl rfl rfl rfl⟩
  · exact (exec_nop s).trans (commandCycle_busy _ hb hs)

/-- Settles O11: CLEAR's effect is the acknowledgement, and R45 refuses it while a command runs. -/
theorem clearAcknowledges : Obligations.ClearAcknowledges := by
  refine ⟨decode_write_cmd (by decide) rfl, fun s => ⟨fun hb => ?_, fun hb hs => ?_⟩⟩
  · exact ⟨_, (exec_clear s).trans (commandCycle_idle _ hb), State.acknowledge_status s.beginCycle, rfl, rfl,
      frame_of_idle hb rfl rfl rfl rfl rfl⟩
  · exact (exec_clear s).trans (commandCycle_busy _ hb hs)

/-- Settles O12: the nine opcodes have one meaning. -/
theorem reservedOpcodesAreIllegal : Obligations.ReservedOpcodesAreIllegal := by
  intro s i op hop hreserved
  have hexec := exec_reserved hop hreserved s
  refine ⟨fun data hdata => ?_, fun hb => ?_, fun hb hs => hexec.trans (commandCycle_busy _ hb hs)⟩
  · have hfield : opcodeField data = op := hdata
    exact decode_write_cmd (by decide) (by rw [hfield, decodeOpcode_of_opcodeOf hop])
  · exact ⟨_, hexec.trans (commandCycle_idle _ hb), rfl, rfl, ⟨rfl, rfl, rfl, rfl, rfl⟩,
      frame_of_idle hb rfl rfl rfl rfl rfl⟩

/-! ### The starts of PARSE and DECODE -/

/-- Settles O16: the cycle is the start of the command alone, and `P_PARSE_LATENCY` is a successor. -/
theorem parseStarts : Obligations.ParseStarts := by
  intro s hb
  exact ⟨_, (exec_parse s).trans (commandCycle_idle _ hb), rfl, rfl, Nat.succ_pos _, rfl,
    frame_of_idle hb rfl rfl rfl rfl rfl⟩

/-- Settles O20, as O16 with `P_DECODE_LATENCY`. -/
theorem decodeStarts : Obligations.DecodeStarts := by
  intro s hb
  exact ⟨_, (exec_decode s).trans (commandCycle_idle _ hb), rfl, rfl, Nat.succ_pos _, rfl,
    frame_of_idle hb rfl rfl rfl rfl rfl⟩

/-! ### ABORT -/

/-- With no command running, an ABORT's cycle is its start alone (R252). -/
theorem exec_abort_idle {s : State} (hb : s.status.busy = false) : exec .abort s = .next s.beginCycle := by
  rw [exec_abort, cycleWith_idle hb]
  simp [hb]

/-- An ABORT comes too late for a command that its own step completes (R252). -/
theorem exec_abort_completed {s : State} (hs : s.beginCycle.strayStore s.sampled.env = none)
    (hu : (s.beginCycle.unitStep s.sampled.env).status.busy = false) :
    exec .abort s = .next (s.beginCycle.unitStep s.sampled.env) := by
  rw [exec_abort, cycleWith_of_noStray hs]
  simp [hu]

/-- Settles O13: in both cases there is nothing left to cancel. -/
theorem abortLeavesCompletedAlone : Obligations.AbortLeavesCompletedAlone := by
  refine fun s => ⟨fun hb => ?_, fun _ hs hu => exec_abort_completed hs hu⟩
  exact ⟨_, exec_abort_idle hb, rfl, rfl, rfl, frame_of_idle hb rfl rfl rfl rfl rfl⟩

/-- The PBUF bytes that the cancelling keeps: all but the payload of a LINK_FETCH (R252, U2). -/
theorem State.cancel_pbufByte {start s : State} {a : Nat}
    (h : isFetchState s.status.lfState = true → s.payloadBytes ≤ a) :
    (State.cancel start s).pbufByte a = s.pbufByte a := by
  by_contra hne
  have hcut : s.cutMemory.pbufByte a ≠ s.pbufByte a := hne
  obtain ⟨_, hfetch, hlt⟩ := State.cutMemory_pbufByte_ne hcut
  exact absurd hlt (Nat.not_lt.mpr (h hfetch))

/-- The FBUF entries that the cancelling keeps: all but the frame of a DECODE that would have succeeded (R252, U3). -/
theorem State.cancel_fbufPixel {start s : State} {i : Nat}
    (h : s.status.lfState = .idle → s.status.lastCmd = 2 → s.int.res = some .success → s.pixelCount ≤ i) :
    (State.cancel start s).fbufPixel i = s.fbufPixel i := by
  by_contra hne
  have hcut : s.cutMemory.fbufPixel i ≠ s.fbufPixel i := hne
  obtain ⟨_, hidle, hdecode, hres, hlt⟩ := State.cutMemory_fbufPixel_ne hcut
  exact absurd hlt (Nat.not_lt.mpr (h hidle hdecode hres))

/-- The cancelling of a command that is no LINK_FETCH, and no DECODE that would have succeeded, leaves both memories. -/
theorem State.sameMemory_cancel {start s : State} (hfetch : isFetchState s.status.lfState = false)
    (hdecode : ¬ (s.status.lfState = .idle ∧ s.status.lastCmd = 2 ∧ s.int.res = some .success)) :
    SameMemory s (State.cancel start s) :=
  ⟨fun _ => State.cancel_pbufByte fun hf => absurd hf (by rw [hfetch]; decide),
    fun _ => State.cancel_fbufPixel fun hi hc hr => absurd ⟨hi, hc, hr⟩ hdecode⟩

/-- Settles O14: the memory clauses follow the state that the engine is in after its step. -/
theorem abortCancelsRunning : Obligations.AbortCancelsRunning := by
  rintro s u hb hs rfl hu
  refine ⟨_, exec_abort_cancels hb hs hu, State.cancel_status _ _, State.cancel_regs _ _, ⟨rfl, rfl, rfl, rfl, rfl⟩,
    State.cancel_txSent _ _, State.cancel_rxQueue _ _, fun hidle hparse => ?_, fun hidle hdecode => ?_, fun hflush => ?_,
    fun hfetch => ?_⟩
  · refine State.sameMemory_cancel (by rw [hidle]; rfl) ?_
    rintro ⟨_, hdecode, _⟩
    rw [hparse] at hdecode
    exact absurd hdecode (by decide)
  · have hnoFetch : isFetchState (s.beginCycle.unitStep s.sampled.env).status.lfState = false := by rw [hidle]; rfl
    refine ⟨fun a => State.cancel_pbufByte fun hf => ?_, fun i hi => State.cancel_fbufPixel fun _ _ _ => hi, fun hres => ?_⟩
    · rw [hnoFetch] at hf; cases hf
    · exact State.sameMemory_cancel hnoFetch fun ⟨_, _, hsuccess⟩ => hres hsuccess
  · refine State.sameMemory_cancel (by rw [hflush]; rfl) ?_
    rintro ⟨hidle, _⟩
    rw [hflush] at hidle; cases hidle
  · refine ⟨fun i => State.cancel_fbufPixel fun hidle _ _ => ?_, fun a ha => State.cancel_pbufByte fun _ => ha⟩
    rw [hidle] at hfetch; cases hfetch

end Sys2Proof.Machine
end

section
/-!
SUPPORT. GPCL never stops (O59; 60_exceptions.md R270): the invariant keeps every store within PBUF, and the stray store of log 11 is
the only thing that keeps a cycle from answering a next state.
-/

namespace Sys2Proof.Machine

/-- A byte that READ stores lies within PBUF, because it lies within the payload (42_link_framer.md R202, R183). -/
theorem State.Inv.storeAddr_lt_pbufBytes {s : State} (h : s.Inv) (hb : s.status.busy = true)
    (hl : s.status.lfState = .read) : s.storeAddr < Config.pbufBytes := by
  obtain ⟨_, hpayload, hstore⟩ := fetchStaysInPayload s h hb (by rw [hl]; rfl)
  exact (hstore hl).trans_le hpayload

/-- No state that meets the invariant raises the fault of log 11, whatever the channel does. -/
theorem State.Inv.noStray {s : State} (h : s.Inv) (env : EnvIn) : s.strayStore env = none := by
  cases hb : s.status.busy with
  | false => exact State.strayStore_idle env hb
  | true =>
    by_cases hl : s.status.lfState = .read
    · exact State.strayStore_of_lt env (h.storeAddr_lt_pbufBytes hb hl)
    · exact State.strayStore_of_ne_read env hl

/-- Every step from a state that meets the invariant answers a next state, reset or not. -/
theorem State.Inv.step_isNext {s : State} (h : s.Inv) : ∃ t, step s = .next t := by
  cases hr : s.sampled.rst with
  | true => exact ⟨_, step_reset hr⟩
  | false => exact Machine.step_isNext hr ((State.beginCycle_inv h).noStray _)

/-- Settles O59, by progress and preservation: a step has a next state, which `StepKeepsInvariant` makes legal. -/
theorem neverStops : Obligations.NeverStops := by
  intro s h
  obtain ⟨t, ht⟩ := h.step_isNext
  exact ⟨t, ht, stepKeepsInvariant s t h ht⟩

end Sys2Proof.Machine
end
